-- ==== Sys2Proof/Word.lean ====
section
/-! DEFINITION. Bits, voltages and the payload kinds that travel on the ports (00_scope R15, R18; 30_encoding R77 to R80). -/
namespace Sys2Proof

/-- A bus bit: `false` is 0, dominant; `true` is 1, recessive (R15). -/
abbrev Bit := Bool

/-- The dominant bit, 0 (R15). -/
abbrev dominant : Bit := false

/-- The recessive bit, 1 (R15). -/
abbrev recessive : Bit := true

/-- One byte of a packed operation word. -/
abbrev Byte := BitVec 8

/-- A voltage, exact (R18): an integer count of one common unit. The default levels are in tenths of a volt, as R18
offers; rules only compare voltages, so any finite set of rationals is covered by a fine enough unit (log 4). -/
abbrev Voltage := Int

/-- A Frame (R80): (id, dlc, data). A value on a port may be invalid (R100), so no field is bounded here. -/
structure Frame where
  id : Nat
  dlc : Nat
  data : List Nat
deriving DecidableEq, Repr

/-- A controller's state report (R78): node index and 3-bit state code. -/
structure StateReport where
  node : Nat
  state : BitVec 3
deriving DecidableEq, Repr

/-- The watchdog's request for one recessive sample, a token with no fields (R78). -/
inductive RecessiveRequest where
  | token
deriving DecidableEq, Repr

end Sys2Proof
end

