-- ==== Sys2Proof/Config.lean ====
section
/-! DEFINITION. The protocol constants (00_scope R8, R9), the implementation parameters (R11 to R14) and the free values. -/
namespace Sys2Proof

/-- STUFF_K (R8). -/
def stuffK : Nat := 5
/-- ID_BITS (R8). -/
def idBits : Nat := 11
/-- MAX_ID (R8). -/
def maxId : Nat := 0x7FF
/-- DLC_BITS (R8). -/
def dlcBits : Nat := 4
/-- MAX_DLC (R8). -/
def maxDlc : Nat := 8
/-- SOF_BITS (R8). -/
def sofBits : Nat := 1
/-- EOF_LEN (R8). -/
def eofLen : Nat := 7
/-- IFS_LEN (R8). -/
def ifsLen : Nat := 3
/-- HEADER_BITS (R9). -/
def headerBits : Nat := sofBits + idBits + dlcBits
/-- TRAILER_LEN (R9). -/
def trailerLen : Nat := eofLen + ifsLen
/-- WAIT_THRESHOLD (R9). -/
def waitThreshold : Nat := eofLen + ifsLen
/-- DATA_REGION_LEN (R9). -/
def dataRegionLen (dlc : Nat) : Nat := headerBits + 8 * dlc

/-- The parameters of R11 to R14. They stand in `State.cfg`, no step writes them, and a statement about every state is
a statement about every choice of them (log 3). `txqDepth = none` is "unbounded" (R12). -/
structure Config where
  nNodes : Nat
  txqDepth : Option Nat
  vDomLow : Voltage
  vDomHigh : Voltage
  vRec : Voltage
  vMin : Voltage
  vMax : Voltage
  nBootRecessive : Nat
  tStart : Nat
  tStop : Nat
deriving DecidableEq, Repr

/-- What R11 to R14 demand of the parameters. -/
def Config.legal (c : Config) : Bool :=
  decide (1 ≤ c.nNodes) && (match c.txqDepth with | none => true | some d => decide (1 ≤ d)) &&
  decide (c.vMin ≤ c.vDomLow) && decide (c.vDomLow < c.vRec) && decide (c.vRec < c.vDomHigh) &&
  decide (c.vDomHigh ≤ c.vMax) && decide (1 ≤ c.nBootRecessive)

/-- The parameters of program P3 of 95_test_vectors with the default levels of R13, in tenths of a volt.
DESIGN CHOICE, unsafe (log 3): the spec leaves them OPEN; only `State.reset` uses them. -/
def Config.default : Config where
  nNodes := 2
  txqDepth := none
  vDomLow := 15
  vDomHigh := 37
  vRec := 25
  vMin := 0
  vMax := 50
  nBootRecessive := 1
  tStart := 3
  tStop := 30

/-- Free value (log 8): what `frameToBits` gives for a frame that is not valid, where R104 states no result. -/
opaque Config.invalidFrameStream : Frame → List Bit

/-- Free value (log 8): what `arbEnd` gives for a frame that is not valid, where R105 states no result. -/
opaque Config.invalidFrameArbEnd : Frame → Nat

end Sys2Proof
end

