-- ==== Sys2Proof/Machine/State.lean ====
section
/-! DEFINITION. The state: every register of 10_state (R22 to R31), every channel (R32 to R38), the step number, and the
model's own bookkeeping (INVENTORY, section State). Plain data throughout. Also why a step can stop, and reset (R39, R220). -/
namespace Sys2Proof.Machine

/-! ## Codes -/

/-- STATE codes (R22). Codes 5, 6 and 7 are reserved. -/
abbrev CtlState.idle : BitVec 3 := 0#3
/-- WaitForBusIdle (R22). -/
abbrev CtlState.wait : BitVec 3 := 1#3
/-- Arbitration (R22). -/
abbrev CtlState.arbitration : BitVec 3 := 2#3
/-- Transmit (R22). -/
abbrev CtlState.transmit : BitVec 3 := 3#3
/-- Receive (R22). -/
abbrev CtlState.receive : BitVec 3 := 4#3

/-- The fault kinds of 60_exceptions R191, codes 1 to 14. -/
inductive FaultKind where
  | malformedPayload | validationNoSamples | validationCountMismatch | validationLowAboveHigh | validationOutOfRange
  | busFault | decodeInsufficientBits | decodeInvalidFrame | decodeBadTrailer | unknownVoltagePair | multipleInputs
  | invalidFrameEnqueue | queueOverflow | illegalState
deriving DecidableEq, Repr

/-! ## Registers -/

/-- A FAULT register (R28): code 0 means no fault. -/
structure FaultReg where
  code : BitVec 4
  info : BitVec 8
deriving DecidableEq, Repr

/-- A TX entry, the source's TxCursor (R25). -/
structure TxEntry where
  frame : Frame
  stream : List Bit
  len : BitVec 7
  arbEnd : BitVec 4
  off : BitVec 7
deriving DecidableEq, Repr

/-- The receive assembler registers RX_* (R27). -/
structure Assembler where
  data : List Bit
  runVal : Bit
  runLen : BitVec 3
  skip : Bool
  hdr : Bool
  dlc : BitVec 4
  trl : BitVec 4
  trlBad : Bool
deriving DecidableEq, Repr

/-- A controller's registers (R22 to R28). -/
structure Controller where
  state : BitVec 3
  wcnt : BitVec 4
  txq : List TxEntry
  rx : Assembler
  fault : FaultReg
deriving DecidableEq, Repr

/-- What is delivered to a node's input ports in this system step (R32, R33), and to the host from its
`ctl_frame_out` (R36). -/
structure NodeIn where
  ctlRxBit : List Bit
  ctlEnq : List Frame
  xcvTxBit : List Bit
  xcvBusLow : List Voltage
  xcvBusHigh : List Voltage
  hostFrame : List Frame
deriving DecidableEq, Repr

/-- What a node's agents have emitted in this system step: the controller's three ports, then the transceiver's (R32, R33). -/
structure NodeOut where
  txBit : List Bit
  frameOut : List Frame
  report : List StateReport
  canLow : List Voltage
  canHigh : List Voltage
  rxBit : List Bit
deriving DecidableEq, Repr

/-- Node n: controller n and transceiver n (R20), whose only register is FAULT (R29), and their ports. -/
structure Node where
  ctl : Controller
  xcvFault : FaultReg
  inp : NodeIn
  out : NodeOut
deriving DecidableEq, Repr

/-- The wires (R30, R34): registers, input ports, the working lists of R128 and the emitted bus pair. -/
structure Wires where
  inj : Nat
  fault : FaultReg
  wLow : List Voltage
  wHigh : List Voltage
  wReq : List RecessiveRequest
  lows : List Voltage
  highs : List Voltage
  busLow : List Voltage
  busHigh : List Voltage
deriving DecidableEq, Repr

/-- The watchdog (R31, R35): registers, input ports and the emitted requests. -/
structure Watchdog where
  last : List (BitVec 3)
  idle : Nat
  active : Bool
  wdState : List StateReport
  wdBusLow : List Voltage
  wdBusHigh : List Voltage
  req : List RecessiveRequest
deriving DecidableEq, Repr

/-! ## The model's own bookkeeping -/

/-- Which kind of operation comes next in the running system step (log 1). -/
inductive Stage where
  /-- Controller `node`: its next enqueue, or its CTL operation when none is left. -/
  | ctl
  /-- Transceiver `node`, write path. -/
  | xw
  /-- Transceiver `node`, read path. -/
  | xr
  /-- Wires, injection decision. -/
  | wi
  /-- Wires, resolution. -/
  | wr
  /-- Watchdog. -/
  | wd
deriving DecidableEq, Repr

/-- Where the running system step stands (log 1, log 2): `ended` says that the agent of this turn has raised a fault (R190),
`halted` is HALT of R192 as it was at the start of this system step. -/
structure Sequencer where
  stage : Stage
  node : Nat
  enqIdx : Nat
  ended : Bool
  halted : Bool
deriving DecidableEq, Repr

/-- The host writes `frame` on ctl[node].ctl_enq so that step `time` finds it there (R36; `@t enq` of R94). -/
structure Delivery where
  time : Nat
  node : Nat
  frame : Frame
deriving DecidableEq, Repr

/-- A free draw of the fan-in orders of one system step (R53, R138): codes of an arrangement for `w_low`, `w_high` and
`wd_state` (log 5). -/
structure FanDraw where
  low : List Nat
  high : List Nat
  report : List Nat
deriving DecidableEq, Repr

/-- The result of a codec function (R100 to R107). -/
inductive FnResult where
  | none
  | bits (l : List Bit)
  | truth (b : Bool)
  | count (n : Nat)
  | frame (f : Frame)
  | wire (f : Frame) (consumed : Nat)
  | error (k : FaultKind)
deriving DecidableEq, Repr

/-- A call of a pure codec function by the host or a test (R91): the function id waiting to be run, the operands, the
result of the last call (log 7). -/
structure FnUnit where
  call : Option (BitVec 3)
  frame : Frame
  bits : List Bit
  k : Nat
  result : FnResult
deriving DecidableEq, Repr

/-! ## The state -/

/-- The whole system (R51): parameters, step number, every agent, and the model's own bookkeeping. -/
structure State where
  cfg : Config
  t : Nat
  nodes : List Node
  wires : Wires
  wd : Watchdog
  seq : Sequencer
  draws : List FanDraw
  sched : List Delivery
  fn : FnUnit
deriving DecidableEq, Repr

/-! ## Why a step can stop -/

/-- The states in which an operation's pseudocode reads an element that is not there. No rule of the spec leads to one
(R26, R56, R137, R178), so each stop is safe (log 12). The faults the spec itself describes are no stops: they are latched in
FAULT and the step goes on (R190). -/
inductive Fault where
  /-- The sequencer points past the last node. Raised by every operation of a node. Safe. -/
  | noSuchNode
  /-- QHead or QPop of an empty TXQ (R56: "used only when q is non-empty"). Raised by the Arbitration and Transmit rows,
  WAIT.GO, and the CTL selector in those states. Safe. -/
  | noQueueHead
  /-- LAST_SENT of an entry with off = 0, or past the stream's end (R26). Raised by the CTL selector in Arbitration, ARB.LOST
  and ARB.BUSFAULT. Safe. -/
  | noLastSent
  /-- TxWrite at or past the end of the stream (R157: "called only when h.off < h.len"). Raised by WAIT.GO, ARB.MATCH, ARB.WON
  and TX.NEXT. Safe. -/
  | streamEnd
  /-- An enqueue operation with no frame left on `ctl_enq` (R85). Raised by ENQ. Safe. -/
  | noFrame
  /-- RX.DONE on data that is no frame (R172: "always Ok here"). Raised by RX.DONE. Safe. -/
  | assemblerNotDone
  /-- WIRES.RESOLVE without a sample on a line (R135: "non-empty"). Raised by WIRES.RESOLVE. Safe. -/
  | noSample
deriving DecidableEq, Repr

/-- What the model gives no meaning to. -/
inductive Refusal where
  /-- An operation still without a meaning; only exec's arms raise it. Safe. -/
  | notModelled (mnemonic : String)
  /-- FN id 111: "no function; a model refuses it" (R91, R92). Raised by FN.RESERVED. Safe. -/
  | reservedFunction
  /-- Run length 0: "a model refuses k = 0 and gives it no meaning" (R112). Raised by FN.stuff and FN.destuff. Safe. -/
  | runLengthZero
  /-- A selector no row matches; it cannot happen, R82: "the decode is total". Raised by step. Safe. -/
  | undecoded
deriving DecidableEq, Repr

/-- What an operation or a step answers. -/
abbrev Result := Host.Outcome State Fault Refusal

/-! ## Reset (R39, R220) -/

/-- No fault (R28). -/
def FaultReg.clear : FaultReg := ⟨0, 0⟩

/-- The assembler's reset values (R27). -/
def Assembler.reset : Assembler := ⟨[], false, 0, false, false, 0, 0, false⟩

/-- R39, ctl[n]. -/
def Controller.reset : Controller := ⟨CtlState.idle, 0, [], Assembler.reset, FaultReg.clear⟩

/-- Empty input ports (R39). -/
def NodeIn.empty : NodeIn := ⟨[], [], [], [], [], []⟩

/-- Nothing emitted. -/
def NodeOut.empty : NodeOut := ⟨[], [], [], [], [], []⟩

/-- R39, node n. -/
def Node.reset : Node := ⟨Controller.reset, FaultReg.clear, NodeIn.empty, NodeOut.empty⟩

/-- R39, wires: INJ = N_BOOT_RECESSIVE. -/
def Wires.reset (c : Config) : Wires := ⟨c.nBootRecessive, FaultReg.clear, [], [], [], [], [], [], []⟩

/-- R39, wd: WD_LAST[n] = Idle, WD_IDLE = 0, WD_ACTIVE = 1. -/
def Watchdog.reset (c : Config) : Watchdog := ⟨List.replicate c.nNodes CtlState.idle, 0, true, [], [], [], []⟩

/-- The first operation of a system step comes next, nothing has happened in it. -/
def Sequencer.start (halted : Bool) : Sequencer := ⟨.ctl, 0, 0, false, halted⟩

/-- The model's own: no call waits, the operands are those of an empty call (log 7). -/
def FnUnit.reset : FnUnit := ⟨none, ⟨0, 0, []⟩, [], 5, .none⟩

/-- The system right after reset, for any parameters (R39, R220). -/
def State.resetWith (c : Config) : State where
  cfg := c
  t := 0
  nodes := List.replicate c.nNodes Node.reset
  wires := Wires.reset c
  wd := Watchdog.reset c
  seq := Sequencer.start false
  draws := []
  sched := []
  fn := FnUnit.reset

/-- The system right after reset, for the parameters of `Config.default` (log 3). -/
def State.reset : State := State.resetWith Config.default

end Sys2Proof.Machine
end

