-- ==== Sys2Proof/Machine/Codec.lean ====
section
/-! DEFINITION. The pure bit-sequence codec (40_codec R100 to R108): number and bit sequence, stuffing, the frame encoder and
the decoder of a data region. `decodeWire` (R107) stands with the receive assembler it is defined by. -/
namespace Sys2Proof.Machine

/-! ## Numbers and bit sequences (R16) -/

/-- `ubits_n(v)`: the low n bits of v, most significant first. -/
def ubits : Nat → Nat → List Bit
  | 0, _ => []
  | n + 1, v => v.testBit n :: ubits n v

/-- `uval(s)`: the unsigned value of s, most significant bit first. -/
def uval (s : List Bit) : Nat := s.foldl (fun v b => 2 * v + b.toNat) 0

/-- `s[a..b)` (R15). -/
def slice {α : Type} (s : List α) (a b : Nat) : List α := (s.drop a).take (b - a)

/-! ## Frames -/

/-- The Frame validity predicate (R100). -/
def frameValid (f : Frame) : Bool :=
  decide (f.id ≤ maxId) && decide (f.dlc ≤ maxDlc) && decide (f.data.length = f.dlc) && f.data.all (fun b => decide (b ≤ 255))

/-- SOF, identifier, DLC and data bytes before stuffing (R101, R71, R72). -/
def dataRegion (f : Frame) : List Bit :=
  [dominant] ++ ubits idBits f.id ++ ubits dlcBits f.dlc ++ (f.data.take f.dlc).flatMap (ubits 8)

/-! ## Stuffing -/

/-- The loop of R102 from run value `rv` and run length `rl`; `rl = 0` means no run yet. -/
def stuffFrom (k : Nat) (rv : Bit) (rl : Nat) : List Bit → List Bit
  | [] => []
  | b :: bs =>
    let rl' := if 0 < rl ∧ b = rv then rl + 1 else 1
    if k ≤ rl' then b :: (!b) :: stuffFrom k (!b) 1 bs else b :: stuffFrom k b rl' bs

/-- `stuff(bits, k)` (R102). -/
def stuff (bits : List Bit) (k : Nat) : List Bit := stuffFrom k dominant 0 bits

/-- The loop of R103; `skip` says that the next bit is a stuff bit. -/
def destuffFrom (k : Nat) (rv : Bit) (rl : Nat) (skip : Bool) : List Bit → List Bit
  | [] => []
  | b :: bs =>
    if skip then destuffFrom k b 1 false bs
    else
      let rl' := if 0 < rl ∧ b = rv then rl + 1 else 1
      b :: destuffFrom k b rl' (decide (k ≤ rl')) bs

/-- `destuff(bits, k)` (R103). The skipped bit's value is not checked (R113). -/
def destuff (bits : List Bit) (k : Nat) : List Bit := destuffFrom k dominant 0 false bits

/-- The trailer: EOF and IFS, all recessive (R73). -/
def trailer : List Bit := List.replicate eofLen recessive ++ List.replicate ifsLen recessive

/-- `frameToBits(f)`, the frame encoder (R104). -/
def frameToBits (f : Frame) : List Bit := stuff (dataRegion f) stuffK ++ trailer

/-- `stuffCount(f)` (R108). -/
def stuffCount (f : Frame) : Nat := (stuff (dataRegion f) stuffK).length - dataRegionLen f.dlc

/-- The loop of R105 over the SOF and the identifier: the raw bits up to and with the last bit of the list. -/
def arbEndFrom (raw : Nat) (rv : Bit) (rl : Nat) : List Bit → Nat
  | [] => raw
  | [_] => raw + 1
  | b :: bs =>
    let rl' := if 0 < rl ∧ b = rv then rl + 1 else 1
    if stuffK ≤ rl' then arbEndFrom (raw + 2) (!b) 1 bs else arbEndFrom (raw + 1) b rl' bs

/-- `arbEnd(f)`: the raw length of the arbitration field (R105). -/
def arbEnd (f : Frame) : Nat := arbEndFrom 0 dominant 0 ((dataRegion f).take (sofBits + idBits))

/-- The raw stream an entry of f holds: `frameToBits` on the frames R104 is about, a free value on the others (log 8). -/
def rawStream (f : Frame) : List Bit := if frameValid f then frameToBits f else Config.invalidFrameStream f

/-- The arbitration length of f: `arbEnd` on the frames R105 is about, a free value on the others (log 8). -/
def rawArbEnd (f : Frame) : Nat := if frameValid f then arbEnd f else Config.invalidFrameArbEnd f

/-! ## The decoder of a data region -/

/-- The identifier field of a destuffed data region (R76). -/
def idOf (d : List Bit) : Nat := uval (slice d 1 12)

/-- The DLC field of a destuffed data region (R76). -/
def dlcOf (d : List Bit) : Nat := uval (slice d 12 16)

/-- Data byte j of a destuffed data region (R76). -/
def byteOf (d : List Bit) (j : Nat) : Nat := uval (slice d (16 + 8 * j) (24 + 8 * j))

/-- `bitsToFrame(d)` (R106); the errors are fault kinds of R191. -/
def bitsToFrame (d : List Bit) : Except FaultKind Frame :=
  if d.length < headerBits then .error .decodeInsufficientBits
  else if maxDlc < dlcOf d then .error .decodeInvalidFrame
  else if d.length < dataRegionLen (dlcOf d) then .error .decodeInsufficientBits
  else .ok ⟨idOf d, dlcOf d, (List.range (dlcOf d)).map (byteOf d)⟩

end Sys2Proof.Machine
end

