-- ==== Sys2Proof/Machine/Assembler.lean ====
section
/-! DEFINITION. The receive frame assembler: its register updates (42_controller R163 to R173), the receive class RXC
(30_encoding R87), and the whole-stream decoder that R107 defines by it. -/
namespace Sys2Proof.Machine

/-- The receive classes of R87. Code 111 is never produced. -/
inductive RxClass where
  | data | skip | hdr | hdrBad | trail | done | badEof
deriving DecidableEq, Repr

/-- The class's three bits in the CTL selector (R87). -/
def RxClass.code : RxClass → BitVec 3
  | .data => 0b000#3
  | .skip => 0b001#3
  | .hdr => 0b010#3
  | .hdrBad => 0b011#3
  | .trail => 0b100#3
  | .done => 0b101#3
  | .badEof => 0b110#3

/-- `inStuffed` of R87: the raw bit belongs to the stuffed region. -/
def Assembler.inStuffed (a : Assembler) : Bool :=
  !a.hdr || decide (a.data.length < dataRegionLen a.dlc.toNat) || a.skip

/-- RXC(b) (R87). -/
def Assembler.rxClass (a : Assembler) (b : Bit) : RxClass :=
  if a.inStuffed then
    if a.skip then .skip
    else if a.data.length + 1 = headerBits then
      if uval (slice a.data 12 15 ++ [b]) ≤ maxDlc then .hdr else .hdrBad
    else .data
  else
    if a.trl.toNat + 1 < trailerLen then .trail
    else if a.trlBad = false ∧ b = recessive then .done
    else .badEof

/-- RxRun(b) (R164). -/
def Assembler.run (a : Assembler) (b : Bit) : Assembler :=
  let a' := if 0 < a.runLen.toNat ∧ b = a.runVal then { a with runLen := a.runLen + 1 } else { a with runVal := b, runLen := 1 }
  if stuffK ≤ a'.runLen.toNat then { a' with skip := true } else a'

/-- The register effect of RX.DATA (R167). -/
def Assembler.takeData (a : Assembler) (b : Bit) : Assembler := { a with data := a.data ++ [b] }.run b

/-- The register effect of RX.SKIP (R168). -/
def Assembler.takeSkip (a : Assembler) (b : Bit) : Assembler := { a with skip := false, runVal := b, runLen := 1 }

/-- The register effect of RX.HDR (R169). -/
def Assembler.takeHdr (a : Assembler) (b : Bit) : Assembler :=
  let a' := a.takeData b
  { a' with dlc := BitVec.ofNat 4 (dlcOf a'.data), hdr := true }

/-- The register effect of RX.TRAIL (R171). -/
def Assembler.takeTrail (a : Assembler) (b : Bit) : Assembler :=
  { a with trl := a.trl + 1, trlBad := if b = dominant then true else a.trlBad }

/-- The register effect of RX.BADEOF (R173). -/
def Assembler.takeBadeof (a : Assembler) : Assembler := { a with trl := a.trl + 1, trlBad := true }

/-- RxStart(b) (R165). -/
def Assembler.start (b : Bit) : Assembler := { Assembler.reset with data := [b] }.run b

/-- The register effect of the RX rule that RXC(b) selects (R166, R107): rules R167 to R173. -/
def Assembler.feed (a : Assembler) (b : Bit) : Assembler :=
  match a.rxClass b with
  | .data => a.takeData b
  | .skip => a.takeSkip b
  | .hdr => a.takeHdr b
  | .hdrBad => a.takeData b
  | .trail => a.takeTrail b
  | .done => Assembler.reset
  | .badEof => a.takeBadeof

/-- RxPreload(seen) (R166). -/
def Assembler.preload (seen : List Bit) : Assembler := seen.foldl Assembler.feed Assembler.reset

/-- The loop of R107 from assembler `a`, with `i` raw bits consumed. -/
def decodeWireFrom (a : Assembler) (i : Nat) : List Bit → Except FaultKind (Frame × Nat)
  | [] => .error .decodeInsufficientBits
  | b :: bs =>
    match a.rxClass b with
    | .hdrBad => .error .decodeInvalidFrame
    | .badEof => .error .decodeBadTrailer
    | .done =>
      match bitsToFrame a.data with
      | .ok f => .ok (f, i + 1)
      | .error e => .error e
    | _ => decodeWireFrom (a.feed b) (i + 1) bs

/-- `decodeWire(raw)` (R107): the frame and the number of raw bits consumed. -/
def decodeWire (raw : List Bit) : Except FaultKind (Frame × Nat) := decodeWireFrom Assembler.reset 0 raw

end Sys2Proof.Machine
end

