-- ==== Sys2Proof/Machine/Ops.lean ====
section
/-! DEFINITION. The shared operations: reaching the node whose turn it is, raising a fault (60_exceptions R190), the queue
primitives (20_memory R56), TxWrite (42_controller R157), emitting on a port, and the wires' and watchdog's common parts. -/
namespace Sys2Proof.Machine

/-! ## The node whose turn it is -/

/-- The node the sequencer points at. -/
def State.node? (s : State) : Option Node := s.nodes[s.seq.node]?

/-- Write back the node the sequencer points at. -/
def State.putNode (s : State) (nd : Node) : State := { s with nodes := s.nodes.set s.seq.node nd }

/-- Run `k` on the node the sequencer points at. -/
def withNode (s : State) (k : Node → Result) : Result :=
  match s.node? with
  | some nd => k nd
  | none => .fault .noSuchNode

/-- A controller step that only writes the controller's registers. -/
def updateCtl (s : State) (g : Controller → Controller) : Result :=
  withNode s fun nd => .next (s.putNode { nd with ctl := g nd.ctl })

/-- An operation with no effect. -/
def noEffect (s : State) : Result := .next s

/-! ## Faults (R190) -/

/-- The 4-bit code of a fault kind (R191). -/
def FaultKind.code : FaultKind → BitVec 4
  | .malformedPayload => 1
  | .validationNoSamples => 2
  | .validationCountMismatch => 3
  | .validationLowAboveHigh => 4
  | .validationOutOfRange => 5
  | .busFault => 6
  | .decodeInsufficientBits => 7
  | .decodeInvalidFrame => 8
  | .decodeBadTrailer => 9
  | .unknownVoltagePair => 10
  | .multipleInputs => 11
  | .invalidFrameEnqueue => 12
  | .queueOverflow => 13
  | .illegalState => 14

/-- A fault is latched. -/
def FaultReg.latched (r : FaultReg) : Bool := r.code != 0

/-- The fault record of `raise Fault(kind, info)` (R190): kept if one is latched already, info at most 255. -/
def FaultReg.raise (r : FaultReg) (kind : FaultKind) (info : Nat) : FaultReg :=
  if r.code = 0 then ⟨kind.code, BitVec.ofNat 8 (min info 255)⟩ else r

/-- The agent's step ends at once (R190). -/
def State.endTurn (s : State) : State := { s with seq := { s.seq with ended := true } }

/-- The controller's emits of this step are discarded (R190). -/
def NodeOut.dropCtl (o : NodeOut) : NodeOut := { o with txBit := [], frameOut := [], report := [] }

/-- The transceiver's emits of this step are discarded (R190). -/
def NodeOut.dropXcv (o : NodeOut) : NodeOut := { o with canLow := [], canHigh := [], rxBit := [] }

/-- `raise` by controller n, whose node now is `nd`: registers written before it stand (R190). -/
def raiseCtl (s : State) (nd : Node) (kind : FaultKind) (info : Nat) : Result :=
  .next (s.putNode { nd with ctl := { nd.ctl with fault := nd.ctl.fault.raise kind info }, out := nd.out.dropCtl }).endTurn

/-- `raise` by transceiver n (R190). -/
def raiseXcv (s : State) (nd : Node) (kind : FaultKind) (info : Nat) : Result :=
  .next (s.putNode { nd with xcvFault := nd.xcvFault.raise kind info, out := nd.out.dropXcv }).endTurn

/-- `raise` by the wires (R190). -/
def raiseWires (s : State) (kind : FaultKind) (info : Nat) : Result :=
  .next { s with wires := { s.wires with fault := s.wires.fault.raise kind info, busLow := [], busHigh := [] } }.endTurn

/-! ## The transmit queue (R56, R57, R160) -/

/-- The entry ENQ makes of a frame (R160, R25). -/
def newEntry (f : Frame) : TxEntry where
  frame := f
  stream := rawStream f
  len := BitVec.ofNat 7 (rawStream f).length
  arbEnd := BitVec.ofNat 4 (rawArbEnd f)
  off := 0

/-- `QPush(TXQ, e)` (R56). -/
def Controller.push (c : Controller) (e : TxEntry) : Controller := { c with txq := c.txq ++ [e] }

/-- `h.off <- v` on the head entry (R56). -/
def Controller.setHeadOff (c : Controller) (v : BitVec 7) : Controller :=
  match c.txq with
  | h :: q => { c with txq := { h with off := v } :: q }
  | [] => c

/-- `QPop(TXQ)` (R56). -/
def Controller.pop (c : Controller) : Controller := { c with txq := c.txq.tail }

/-- Run `k` on `QHead(TXQ)`, used only when the queue is non-empty (R56). -/
def withHead (nd : Node) (k : TxEntry → Result) : Result :=
  match nd.ctl.txq with
  | h :: _ => k h
  | [] => .fault .noQueueHead

/-! ## The transmit bit-stream generator (R157) -/

/-- `emit ctl_tx_bit <- b`. -/
def NodeOut.emitTxBit (o : NodeOut) (b : Bit) : NodeOut := { o with txBit := o.txBit ++ [b] }

/-- TxWrite on node `nd` (R157): emit `h.stream[h.off]`, advance `h.off`. -/
def txWrite (s : State) (nd : Node) : Result :=
  withHead nd fun h =>
    match h.stream[h.off.toNat]? with
    | some b => .next (s.putNode { nd with ctl := nd.ctl.setHeadOff (h.off + 1), out := nd.out.emitTxBit b })
    | none => .fault .streamEnd

/-- `h.off - 1`, the raw index of LAST_SENT (R26). -/
def lastIndex (h : TxEntry) : Except Fault Nat :=
  match h.off.toNat with
  | 0 => .error .noLastSent
  | i + 1 => .ok i

/-- LAST_SENT = h.stream[h.off - 1] (R26). -/
def lastSent (h : TxEntry) : Except Fault Bit :=
  match lastIndex h with
  | .error e => .error e
  | .ok i =>
    match h.stream[i]? with
    | some b => .ok b
    | none => .error .noLastSent

/-! ## Transceiver emits (R121, R122, R124, R125) -/

/-- `emit xcv_can_low <- lo; emit xcv_can_high <- hi`. -/
def NodeOut.emitCan (o : NodeOut) (lo hi : Voltage) : NodeOut := { o with canLow := o.canLow ++ [lo], canHigh := o.canHigh ++ [hi] }

/-- `emit xcv_rx_bit <- b`. -/
def NodeOut.emitRxBit (o : NodeOut) (b : Bit) : NodeOut := { o with rxBit := o.rxBit ++ [b] }

/-- The transceiver drives the pair (lo, hi). -/
def drivePair (s : State) (lo hi : Voltage) : Result :=
  withNode s fun nd => .next (s.putNode { nd with out := nd.out.emitCan lo hi })

/-- The transceiver delivers the bit b to its controller. -/
def deliverRxBit (s : State) (b : Bit) : Result :=
  withNode s fun nd => .next (s.putNode { nd with out := nd.out.emitRxBit b })

/-! ## Wires (R128, R129, R133 to R135) -/

/-- R128 step 1 and the injection of R129: the working lists, extended by one recessive sample when one is due. -/
def Wires.inject (w : Wires) (vRec : Voltage) : Wires :=
  let inj := w.inj + w.wReq.length
  if 0 < inj then { w with lows := w.wLow ++ [vRec], highs := w.wHigh ++ [vRec], inj := inj - 1 }
  else { w with lows := w.wLow, highs := w.wHigh, inj := inj }

/-- The least i with lows[i] > highs[i], samples paired by position (R133, R138). -/
def firstLowAbove (lows highs : List Voltage) : Option Nat := (lows.zip highs).findIdx? fun p => decide (p.2 < p.1)

/-- Some sample lies outside [V_MIN, V_MAX] (R134). -/
def someOutOfRange (c : Config) (l : List Voltage) : Bool := l.any fun v => decide (v < c.vMin) || decide (c.vMax < v)

/-- The least of a non-empty list of samples (R135). -/
def minSample (v : Voltage) (l : List Voltage) : Voltage := l.foldl min v

/-- The greatest of a non-empty list of samples (R135). -/
def maxSample (v : Voltage) (l : List Voltage) : Voltage := l.foldl max v

/-! ## Watchdog (R198, R199) -/

/-- WD_LAST after this step's reports, merged by node index in delivery order (R198, R199). -/
def Watchdog.merged (w : Watchdog) : List (BitVec 3) := w.wdState.foldl (fun l r => l.set r.node r.state) w.last

/-- WD_IDLE' (R198). -/
def Watchdog.idle' (w : Watchdog) : Nat := if w.wdBusLow ≠ [] then 0 else w.idle + 1

/-- An active watchdog step: the merge of R198, then WD_IDLE and WD_ACTIVE. -/
def Watchdog.observe (w : Watchdog) (idle : Nat) (active : Bool) : Watchdog :=
  { w with last := w.merged, idle := idle, active := active }

end Sys2Proof.Machine
end

