-- ==== Sys2Proof/Machine/Arbitration.lean ====
section
/-! DEFINITION. The controller in Arbitration and Transmit (42_controller R152 to R159). -/
namespace Sys2Proof.Machine

/-- ARB.MATCH (R153): the echo is the bit sent; write the next one. -/
def execArbMatch (s : State) : Result :=
  withNode s fun nd => txWrite s nd

/-- ARB.WON (R154): the identifier's last bit came back; go on in Transmit with the next bit. -/
def execArbWon (s : State) : Result :=
  withNode s fun nd => txWrite s { nd with ctl := { nd.ctl with state := CtlState.transmit } }

/-- ARB.LOST (R155): `seen` is the bits sent but the last, then the dominant bit; the frame stays at the head with off = 0, and
the assembler takes over as if it had listened since the SOF. -/
def execArbLost (s : State) : Result :=
  withNode s fun nd =>
    withHead nd fun h =>
      match lastIndex h with
      | .error e => .fault e
      | .ok i =>
        .next (s.putNode { nd with ctl :=
          { nd.ctl.setHeadOff 0 with
            state := CtlState.receive
            rx := Assembler.preload (h.stream.take i ++ [dominant]) } })

/-- ARB.BUSFAULT (R156): `raise Fault(BusFault, h.off - 1)`. -/
def execArbBusfault (s : State) : Result :=
  withNode s fun nd =>
    withHead nd fun h =>
      match lastIndex h with
      | .error e => .fault e
      | .ok i => raiseCtl s nd .busFault i

/-- TX.NEXT (R158): write the next bit; the echo is not compared. -/
def execTxNext (s : State) : Result :=
  withNode s fun nd => txWrite s nd

/-- TX.DONE (R159): the echo of the last trailer bit; pop the head and go to Idle. -/
def execTxDone (s : State) : Result :=
  withNode s fun nd =>
    withHead nd fun _ =>
      .next (s.putNode { nd with ctl := { nd.ctl.pop with state := CtlState.idle } })

end Sys2Proof.Machine
end

