-- ==== Sys2Proof/Machine/Bus.lean ====
section
/-! DEFINITION. The wires: injection decision and resolution (41_physical R128 to R135). -/
namespace Sys2Proof.Machine

/-- WIRES.INJECT (R129). -/
def execWiresInject (s : State) : Result := .next { s with wires := s.wires.inject s.cfg.vRec }

/-- WIRES.NOINJ (R129): the same pseudocode, whose condition fails here. -/
def execWiresNoinj (s : State) : Result := .next { s with wires := s.wires.inject s.cfg.vRec }

/-- WIRES.IDLE (R130): no output. -/
def execWiresIdle (s : State) : Result := noEffect s

/-- WIRES.NOSAMPLES (R131): `raise Fault(ValidationNoSamples, 0)`. -/
def execWiresNosamples (s : State) : Result := raiseWires s .validationNoSamples 0

/-- WIRES.MISMATCH (R132): `raise Fault(ValidationCountMismatch, 0)`. -/
def execWiresMismatch (s : State) : Result := raiseWires s .validationCountMismatch 0

/-- WIRES.LOWHIGH (R133): if some low lies above its paired high, `raise Fault(ValidationLowAboveHigh, i)`, i the least. -/
def execWiresLowhigh (s : State) : Result :=
  match firstLowAbove s.wires.lows s.wires.highs with
  | some i => raiseWires s .validationLowAboveHigh i
  | none => noEffect s

/-- WIRES.RANGE (R134): if some sample is out of range, `raise Fault(ValidationOutOfRange, 0)`. -/
def execWiresRange (s : State) : Result :=
  if someOutOfRange s.cfg (s.wires.lows ++ s.wires.highs) then raiseWires s .validationOutOfRange 0 else noEffect s

/-- `emit w_bus_low <- lo; emit w_bus_high <- hi`. -/
def Wires.emitPair (w : Wires) (lo hi : Voltage) : Wires := { w with busLow := w.busLow ++ [lo], busHigh := w.busHigh ++ [hi] }

/-- WIRES.RESOLVE (R135): the wired-AND, least low and greatest high. -/
def execWiresResolve (s : State) : Result :=
  match s.wires.lows, s.wires.highs with
  | l :: ls, h :: hs => .next { s with wires := s.wires.emitPair (minSample l ls) (maxSample h hs) }
  | _, _ => .fault .noSample

end Sys2Proof.Machine
end

