-- ==== Sys2Proof/Machine/CodecCalls.lean ====
section
/-! DEFINITION. The calls of the pure codec functions (30_encoding R91, 40_codec): operands and result stand in `State.fn`
(log 7); nothing else changes. -/
namespace Sys2Proof.Machine

/-- The call's result. -/
def fnReturn (s : State) (r : FnResult) : Result := .next { s with fn := { s.fn with result := r } }

/-- FN.stuff (R102); k = 0 is refused (R112). -/
def execFnStuff (s : State) : Result :=
  if s.fn.k = 0 then .refused .runLengthZero else fnReturn s (.bits (stuff s.fn.bits s.fn.k))

/-- FN.destuff (R103); k = 0 is refused (R112). -/
def execFnDestuff (s : State) : Result :=
  if s.fn.k = 0 then .refused .runLengthZero else fnReturn s (.bits (destuff s.fn.bits s.fn.k))

/-- FN.frameToBits (R104); a free value for a frame that is not valid (log 8). -/
def execFnFrameToBits (s : State) : Result := fnReturn s (.bits (rawStream s.fn.frame))

/-- FN.bitsToFrame (R106). -/
def execFnBitsToFrame (s : State) : Result :=
  match bitsToFrame s.fn.bits with
  | .ok f => fnReturn s (.frame f)
  | .error e => fnReturn s (.error e)

/-- FN.frameValid (R100). -/
def execFnFrameValid (s : State) : Result := fnReturn s (.truth (frameValid s.fn.frame))

/-- FN.arbEnd (R105); a free value for a frame that is not valid (log 8). -/
def execFnArbEnd (s : State) : Result := fnReturn s (.count (rawArbEnd s.fn.frame))

/-- FN.decodeWire (R107). -/
def execFnDecodeWire (s : State) : Result :=
  match decodeWire s.fn.bits with
  | .ok (f, n) => fnReturn s (.wire f n)
  | .error e => fnReturn s (.error e)

/-- FN id 111: no function; a model refuses it (R91, R92). -/
def execFnReserved (_ : State) : Result := .refused .reservedFunction

end Sys2Proof.Machine
end

