-- ==== Sys2Proof/Machine/Common.lean ====
section
/-! DEFINITION. The controller operations that belong to no state of their own: 30_encoding R84 rows 1 to 5 and 25. -/
namespace Sys2Proof.Machine

/-- CTL.HALTED (R142): no register write and no output. -/
def execCtlHalted (s : State) : Result := noEffect s

/-- The body of CTL.BADSTATE (R143): `raise Fault(IllegalState, STATE)`. -/
def raiseIllegalState (s : State) : Result :=
  withNode s fun nd => raiseCtl s nd .illegalState nd.ctl.state.toNat

/-- CTL.BADSTATE, STATE = 5 (R143). -/
def execCtlBadState5 (s : State) : Result := raiseIllegalState s

/-- CTL.BADSTATE, STATE = 6 or 7 (R143). -/
def execCtlBadState67 (s : State) : Result := raiseIllegalState s

/-- CTL.BADSTATE, reserved receive class 111 (R143). -/
def execCtlBadStateRxc (s : State) : Result := raiseIllegalState s

/-- CTL.MULTI (R144): `raise Fault(MultipleInputs, len(in ctl_rx_bit))`. -/
def execCtlMulti (s : State) : Result :=
  withNode s fun nd => raiseCtl s nd .multipleInputs nd.inp.ctlRxBit.length

/-- CTL.NOBIT (R145): no transition and no bit written. -/
def execCtlNobit (s : State) : Result := noEffect s

end Sys2Proof.Machine
end

