-- ==== Sys2Proof/Machine/Operands.lean ====
section
/-! DEFINITION. The operands an agent's step reads from its ports, and the count and class fields of the selector words that
stand for them (30_encoding R83, R85, R88). -/
namespace Sys2Proof.Machine

/-- The field N for a port: 00 none, 01 one, 1x two or more (R83, R88). The model shows 10 for two or more (log 9). -/
def countField {α : Type} : List α → BitVec 2
  | [] => 0b00#2
  | [_] => 0b01#2
  | _ => 0b10#2

/-- The field B: the bit when exactly one is there, else 0 (R83, R88). -/
def bitField : List Bit → Bit
  | [b] => b
  | _ => false

/-- The bus bit of the step, when exactly one was delivered. -/
def theBit : List Bit → Option Bit
  | [b] => some b
  | _ => none

/-- The frame the next enqueue operation takes (R85). -/
def enqFrame (s : State) (nd : Node) : Option Frame := nd.inp.ctlEnq[s.seq.enqIdx]?

/-- The field N of format XR (R88): 00 both lines empty, 01 one value on each, else 1x, shown as 10 (log 9). -/
def pairCountField (lows highs : List Voltage) : BitVec 2 :=
  match lows, highs with
  | [], [] => 0b00#2
  | [_], [_] => 0b01#2
  | _, _ => 0b10#2

/-- The field K of format XR (R88): the class of the delivered pair; another pair than the two legal ones is 1x, shown as 10
(log 9); 00 when there is not exactly one pair. -/
def pairClassField (c : Config) (lows highs : List Voltage) : BitVec 2 :=
  match lows, highs with
  | [lo], [hi] =>
    if lo = c.vDomLow ∧ hi = c.vDomHigh then 0b00#2
    else if lo = c.vRec ∧ hi = c.vRec then 0b01#2
    else 0b10#2
  | _, _ => 0b00#2

end Sys2Proof.Machine
end

