-- ==== Sys2Proof/Syntax.lean ====
section
/-! DEFINITION. The selector words (30_encoding section 4) and the operations they choose: one constructor per row of
spec/opcode_table.json. A constructor's arguments are the don't-care bits of its row, most significant first, so that no
bit of a selector is lost. -/
namespace Sys2Proof

/-- The formats, in the order of 30_encoding section 4. -/
inductive Format where
  | ctl | host | xw | xr | wi | wr | wd | fn
deriving DecidableEq, Repr

/-- A selector word of one of the formats (R83, R85, R88 to R91). -/
inductive Selector where
  | ctl (w : BitVec 10)
  | host (w : BitVec 3)
  | xw (w : BitVec 3)
  | xr (w : BitVec 4)
  | wi (w : BitVec 1)
  | wr (w : BitVec 5)
  | wd (w : BitVec 4)
  | fn (w : BitVec 3)
deriving DecidableEq, Repr

/-- The format a selector word is of. -/
def Selector.format : Selector → Format
  | .ctl _ => .ctl
  | .host _ => .host
  | .xw _ => .xw
  | .xr _ => .xr
  | .wi _ => .wi
  | .wr _ => .wr
  | .wd _ => .wd
  | .fn _ => .fn

/-- The operations. -/
inductive Instr where
  -- format CTL (R84), rows in decode order
  | ctlHalted (s : BitVec 3) (n : BitVec 2) (b : Bit) (c : BitVec 3)
  | ctlBadState5 (n : BitVec 2) (b : Bit) (c : BitVec 3)
  | ctlBadState67 (low : Bit) (n : BitVec 2) (b : Bit) (c : BitVec 3)
  | ctlMulti (s : BitVec 3) (n : Bit) (b : Bit) (c : BitVec 3)
  | ctlNobit (s : BitVec 3) (b : Bit) (c : BitVec 3)
  | idleSof (c : BitVec 3)
  | idleStart (c : BitVec 2)
  | idleStay (c : BitVec 2)
  | waitSof (c : BitVec 3)
  | waitGo (c : BitVec 2)
  | waitCount (c : BitVec 2)
  | arbMatch (b : Bit) (c : Bit)
  | arbWon (b : Bit) (c : Bit)
  | arbLost (c : BitVec 2)
  | arbBusfault (c : BitVec 2)
  | txNext (b : Bit) (c : BitVec 2)
  | txDone (b : Bit) (c : BitVec 2)
  | rxData (b : Bit)
  | rxSkip (b : Bit)
  | rxHdr (b : Bit)
  | rxHdrbad (b : Bit)
  | rxTrail (b : Bit)
  | rxDone (b : Bit)
  | rxBadeof (b : Bit)
  | ctlBadStateRxc (b : Bit)
  -- format HOST (R85)
  | enqHalted (vf : BitVec 2)
  | enqBad (f : Bit)
  | enqFull
  | enq
  -- format XW (R88)
  | xcvWrmulti (n : Bit) (b : Bit)
  | xcvWrnone (b : Bit)
  | xcvWr0
  | xcvWr1
  -- format XR (R88)
  | xcvRdmulti (n : Bit) (k : BitVec 2)
  | xcvRdnone (k : BitVec 2)
  | xcvRd0
  | xcvRd1
  | xcvRdbad (k : Bit)
  -- format WI (R89)
  | wiresInject
  | wiresNoinj
  -- format WR (R89)
  | wiresIdle (mcpr : BitVec 4)
  | wiresNosamples (cpr : BitVec 3)
  | wiresMismatch (pr : BitVec 2)
  | wiresLowhigh (r : Bit)
  | wiresRange
  | wiresResolve
  -- format WD (R90)
  | wdgDormant (ast : BitVec 3)
  | wdgRequest (t : Bit)
  | wdgContBusy (t : Bit)
  | wdgSleep (s : Bit)
  | wdgContIdle (s : Bit)
  -- format FN (R91)
  | fnStuff
  | fnDestuff
  | fnFrameToBits
  | fnBitsToFrame
  | fnFrameValid
  | fnArbEnd
  | fnDecodeWire
  | fnReserved
deriving DecidableEq, Repr

end Sys2Proof
end

