-- ==== Sys2Proof/Machine/Flags.lean ====
section
/-! DEFINITION. The condition bits (10_state R37, 30_encoding R86, R87) and the selector word of each format (R83, R85, R88 to
R90), computed from the state; nothing here is stored. -/
namespace Sys2Proof.Machine

/-! ## Condition bits of a controller (R86) -/

/-- Q: TXQ is non-empty. -/
def condQ (c : Controller) : Bit := !c.txq.isEmpty

/-- C: WCNT + 1 > WAIT_THRESHOLD. -/
def condC (c : Controller) : Bit := decide (waitThreshold < c.wcnt.toNat + 1)

/-- F: head.off = head.arb_end. -/
def condF (h : TxEntry) : Bit := decide (h.off.toNat = h.arbEnd.toNat)

/-- X: head.off = head.len. -/
def condX (h : TxEntry) : Bit := decide (h.off = h.len)

/-- Three bits, most significant first. -/
def bits3 (x y z : Bit) : BitVec 3 := BitVec.ofBool x ++ BitVec.ofBool y ++ BitVec.ofBool z

/-- C[2:0] in Arbitration: E and F (R86). -/
def condArb (c : Controller) (b : Bit) : Except Fault (BitVec 3) :=
  match c.txq with
  | [] => .error .noQueueHead
  | h :: _ =>
    match lastSent h with
    | .error e => .error e
    | .ok l => .ok (bits3 (b == l) (condF h) false)

/-- C[2:0] in Transmit: X (R86). -/
def condTx (c : Controller) : Except Fault (BitVec 3) :=
  match c.txq with
  | [] => .error .noQueueHead
  | h :: _ => .ok (bits3 (condX h) false false)

/-- C[2:0] for the bus bit b (R86). -/
def ctlCond (c : Controller) (b : Bit) : Except Fault (BitVec 3) :=
  if c.state = CtlState.idle then .ok (bits3 (condQ c) false false)
  else if c.state = CtlState.wait then .ok (bits3 (condC c) false false)
  else if c.state = CtlState.arbitration then condArb c b
  else if c.state = CtlState.transmit then condTx c
  else if c.state = CtlState.receive then .ok (c.rx.rxClass b).code
  else .ok 0b000#3

/-! ## Selector words -/

/-- CTL (R83). The C field is that of R86 when a bus bit decides, else 000: every row it could matter to has it x (log 10). -/
def ctlSelector (halted : Bool) (nd : Node) : Except Fault (BitVec 10) :=
  let word := fun (c : BitVec 3) =>
    BitVec.ofBool halted ++ nd.ctl.state ++ countField nd.inp.ctlRxBit ++ BitVec.ofBool (bitField nd.inp.ctlRxBit) ++ c
  match halted, theBit nd.inp.ctlRxBit with
  | false, some b =>
    match ctlCond nd.ctl b with
    | .ok c => .ok (word c)
    | .error e => .error e
  | _, _ => .ok (word 0b000#3)

/-- The field F of HOST: TXQ_DEPTH is finite and len(TXQ) = TXQ_DEPTH (R85). -/
def queueFull (cfg : Config) (c : Controller) : Bit :=
  match cfg.txqDepth with
  | none => false
  | some d => decide (c.txq.length = d)

/-- HOST (R85): H covers a halted system and a fault this controller raised earlier in this step. -/
def hostSelector (s : State) (nd : Node) (f : Frame) : BitVec 3 :=
  bits3 (s.seq.halted || s.seq.ended) (frameValid f) (queueFull s.cfg nd.ctl)

/-- XW (R88). -/
def xwSelector (nd : Node) : BitVec 3 := countField nd.inp.xcvTxBit ++ BitVec.ofBool (bitField nd.inp.xcvTxBit)

/-- XR (R88). -/
def xrSelector (cfg : Config) (nd : Node) : BitVec 4 :=
  pairCountField nd.inp.xcvBusLow nd.inp.xcvBusHigh ++ pairClassField cfg nd.inp.xcvBusLow nd.inp.xcvBusHigh

/-- WI (R89). -/
def wiSelector (w : Wires) : BitVec 1 := BitVec.ofBool (decide (0 < w.inj + w.wReq.length))

/-- WR (R89), over the working lists after injection. -/
def wrSelector (cfg : Config) (w : Wires) : BitVec 5 :=
  BitVec.ofBool (!w.lows.isEmpty || !w.highs.isEmpty) ++ BitVec.ofBool (w.lows.isEmpty != w.highs.isEmpty) ++
    BitVec.ofBool (w.lows.length != w.highs.length) ++ BitVec.ofBool (firstLowAbove w.lows w.highs).isSome ++
    BitVec.ofBool (someOutOfRange cfg (w.lows ++ w.highs))

/-- The field K of WD: WD_ACTIVE = 1, or an input port is non-empty (R90). -/
def wdAwake (w : Watchdog) : Bit := w.active || !w.wdState.isEmpty || !w.wdBusLow.isEmpty || !w.wdBusHigh.isEmpty

/-- The field A of WD: every node Idle after this step's merge (R90). -/
def wdAllIdle (w : Watchdog) : Bit := w.merged.all fun x => x == CtlState.idle

/-- WD (R90). DESIGN CHOICE (log 24): in a dormant step, where R198 stops before it computes WD_IDLE', the fields S and T are those of
the WD_IDLE' an active step would have; the row DORMANT has x there. -/
def wdSelector (cfg : Config) (w : Watchdog) : BitVec 4 :=
  BitVec.ofBool (wdAwake w) ++ BitVec.ofBool (wdAllIdle w) ++ BitVec.ofBool (decide (cfg.tStart < w.idle')) ++
    BitVec.ofBool (decide (cfg.tStop < w.idle'))

end Sys2Proof.Machine
end

