-- ==== Sys2Proof/Machine/HostOps.lean ====
section
/-! DEFINITION. The host operations (42_controller R160 to R162, R142). -/
namespace Sys2Proof.Machine

/-- ENQ.HALTED (R142): the frame is dropped. -/
def execEnqHalted (s : State) : Result := noEffect s

/-- ENQ.BAD (R161): `raise Fault(InvalidFrameEnqueue, 0)`. -/
def execEnqBad (s : State) : Result :=
  withNode s fun nd => raiseCtl s nd .invalidFrameEnqueue 0

/-- ENQ.FULL (R162): `raise Fault(QueueOverflow, TXQ_DEPTH)`. The row is chosen only with a finite depth (R85); without one
nothing is raised: "Never raised when TXQ_DEPTH is unbounded". -/
def execEnqFull (s : State) : Result :=
  withNode s fun nd =>
    match s.cfg.txqDepth with
    | some d => raiseCtl s nd .queueOverflow d
    | none => noEffect s

/-- ENQ (R160): push the encoded frame at the tail. -/
def execEnq (s : State) : Result :=
  withNode s fun nd =>
    match enqFrame s nd with
    | some f => .next (s.putNode { nd with ctl := nd.ctl.push (newEntry f) })
    | none => .fault .noFrame

end Sys2Proof.Machine
end

