-- ==== Sys2Proof/Machine/Idle.lean ====
section
/-! DEFINITION. The controller in Idle and WaitForBusIdle (42_controller R146 to R151). -/
namespace Sys2Proof.Machine

/-- IDLE.SOF (R146): a dominant bit is someone else's SOF; receive it. -/
def execIdleSof (s : State) : Result :=
  updateCtl s fun c => { c with state := CtlState.receive, rx := Assembler.start dominant }

/-- IDLE.START (R147): the bus is idle and a frame waits. This recessive bit is not counted. -/
def execIdleStart (s : State) : Result :=
  updateCtl s fun c => { c with state := CtlState.wait, wcnt := 0 }

/-- IDLE.STAY (R148): no register change. -/
def execIdleStay (s : State) : Result := noEffect s

/-- WAIT.SOF (R149): another node started first; the queued frame stays. -/
def execWaitSof (s : State) : Result :=
  updateCtl s fun c => { c with state := CtlState.receive, wcnt := 0, rx := Assembler.start dominant }

/-- WAIT.COUNT (R150): keep counting. -/
def execWaitCount (s : State) : Result :=
  updateCtl s fun c => { c with wcnt := c.wcnt + 1 }

/-- WAIT.GO (R151): the 11th recessive bit; write the SOF in this step. -/
def execWaitGo (s : State) : Result :=
  withNode s fun nd => txWrite s { nd with ctl := { nd.ctl with state := CtlState.arbitration, wcnt := 0 } }

end Sys2Proof.Machine
end

