-- ==== Sys2Proof/Machine/Receive.lean ====
section
/-! DEFINITION. The controller in Receive: the receive frame assembler's rows (42_controller R167 to R173). `b` is the bus bit B
of the step, the B field of the selector. -/
namespace Sys2Proof.Machine

/-- RX.DATA (R167). -/
def execRxData (b : Bit) (s : State) : Result :=
  updateCtl s fun c => { c with rx := c.rx.takeData b }

/-- RX.SKIP (R168): the stuff bit is discarded, its value unchecked. -/
def execRxSkip (b : Bit) (s : State) : Result :=
  updateCtl s fun c => { c with rx := c.rx.takeSkip b }

/-- RX.HDR (R169): the 16th destuffed bit; the DLC is valid from now on. -/
def execRxHdr (b : Bit) (s : State) : Result :=
  updateCtl s fun c => { c with rx := c.rx.takeHdr b }

/-- RX.HDRBAD (R170): the bit is kept, then `raise Fault(DecodeInvalidFrame, DLC)`; STATE stays Receive. -/
def execRxHdrbad (b : Bit) (s : State) : Result :=
  withNode s fun nd =>
    let rx := nd.ctl.rx.takeData b
    raiseCtl s { nd with ctl := { nd.ctl with rx := rx } } .decodeInvalidFrame (dlcOf rx.data)

/-- RX.TRAIL (R171). -/
def execRxTrail (b : Bit) (s : State) : Result :=
  updateCtl s fun c => { c with rx := c.rx.takeTrail b }

/-- `emit ctl_frame_out <- f`. -/
def NodeOut.emitFrame (o : NodeOut) (f : Frame) : NodeOut := { o with frameOut := o.frameOut ++ [f] }

/-- RX.DONE (R172): decode the frame, emit it to the host, back to Idle with the assembler reset. -/
def execRxDone (s : State) : Result :=
  withNode s fun nd =>
    match bitsToFrame nd.ctl.rx.data with
    | .error _ => .fault .assemblerNotDone
    | .ok f =>
      .next (s.putNode { nd with
        ctl := { nd.ctl with state := CtlState.idle, rx := Assembler.reset }
        out := nd.out.emitFrame f })

/-- RX.BADEOF (R173): `raise Fault(DecodeBadTrailer, 0)`; STATE stays Receive and RX_DATA is kept. -/
def execRxBadeof (s : State) : Result :=
  withNode s fun nd =>
    raiseCtl s { nd with ctl := { nd.ctl with rx := nd.ctl.rx.takeBadeof } } .decodeBadTrailer 0

end Sys2Proof.Machine
end

