-- ==== Sys2Proof/Machine/Transceiver.lean ====
section
/-! DEFINITION. The transceiver's write and read paths (41_physical R121 to R127). -/
namespace Sys2Proof.Machine

/-- XCV.WRMULTI (R123): `raise Fault(MultipleInputs, count)`. -/
def execXcvWrmulti (s : State) : Result :=
  withNode s fun nd => raiseXcv s nd .multipleInputs nd.inp.xcvTxBit.length

/-- XCV.WRNONE (R123): no effect. -/
def execXcvWrnone (s : State) : Result := noEffect s

/-- XCV.WR0 (R121): drive the dominant pair. -/
def execXcvWr0 (s : State) : Result := drivePair s s.cfg.vDomLow s.cfg.vDomHigh

/-- XCV.WR1 (R122): drive the recessive pair. -/
def execXcvWr1 (s : State) : Result := drivePair s s.cfg.vRec s.cfg.vRec

/-- XCV.RDMULTI (R127): `raise Fault(MultipleInputs, len(in xcv_bus_low))`. -/
def execXcvRdmulti (s : State) : Result :=
  withNode s fun nd => raiseXcv s nd .multipleInputs nd.inp.xcvBusLow.length

/-- XCV.RDNONE (R127): no bit is emitted. -/
def execXcvRdnone (s : State) : Result := noEffect s

/-- XCV.RD0 (R124): deliver a dominant bit. -/
def execXcvRd0 (s : State) : Result := deliverRxBit s dominant

/-- XCV.RD1 (R125): deliver a recessive bit. -/
def execXcvRd1 (s : State) : Result := deliverRxBit s recessive

/-- XCV.RDBAD (R126): `raise Fault(UnknownVoltagePair, 0)`. -/
def execXcvRdbad (s : State) : Result :=
  withNode s fun nd => raiseXcv s nd .unknownVoltagePair 0

end Sys2Proof.Machine
end

