-- ==== Sys2Proof/Machine/Watch.lean ====
section
/-! DEFINITION. The idle watchdog (60_exceptions R198 to R204). -/
namespace Sys2Proof.Machine

/-- WDG.DORMANT (R200): nothing, not even the merge (R198). -/
def execWdgDormant (s : State) : Result := noEffect s

/-- `emit wd_req <- RecessiveRequest`. -/
def Watchdog.emitReq (w : Watchdog) : Watchdog := { w with req := w.req ++ [.token] }

/-- WDG.REQUEST (R201): ask for one recessive bit, WD_IDLE = 0, WD_ACTIVE = 1. -/
def execWdgRequest (s : State) : Result := .next { s with wd := (s.wd.observe 0 true).emitReq }

/-- WDG.CONT_BUSY (R202): WD_IDLE = WD_IDLE', WD_ACTIVE = 1. -/
def execWdgContBusy (s : State) : Result := .next { s with wd := s.wd.observe s.wd.idle' true }

/-- WDG.SLEEP (R203): WD_IDLE = WD_IDLE', WD_ACTIVE = 0. -/
def execWdgSleep (s : State) : Result := .next { s with wd := s.wd.observe s.wd.idle' false }

/-- WDG.CONT_IDLE (R204): WD_IDLE = WD_IDLE', WD_ACTIVE = 1. -/
def execWdgContIdle (s : State) : Result := .next { s with wd := s.wd.observe s.wd.idle' true }

end Sys2Proof.Machine
end

