-- ==== Sys2Proof/Machine/Dispatch.lean ====
section
/-! DEFINITION. Which meaning each operation has: one arm per row of spec/opcode_table.json. -/
namespace Sys2Proof.Machine

def exec (i : Instr) (s : State) : Host.Outcome State Fault Refusal :=
  match i with
  | .ctlHalted _ _ _ _ => Sys2Proof.Machine.execCtlHalted s
  | .ctlBadState5 _ _ _ => Sys2Proof.Machine.execCtlBadState5 s
  | .ctlBadState67 _ _ _ _ => Sys2Proof.Machine.execCtlBadState67 s
  | .ctlMulti _ _ _ _ => Sys2Proof.Machine.execCtlMulti s
  | .ctlNobit _ _ _ => Sys2Proof.Machine.execCtlNobit s
  | .idleSof _ => Sys2Proof.Machine.execIdleSof s
  | .idleStart _ => Sys2Proof.Machine.execIdleStart s
  | .idleStay _ => Sys2Proof.Machine.execIdleStay s
  | .waitSof _ => Sys2Proof.Machine.execWaitSof s
  | .waitGo _ => Sys2Proof.Machine.execWaitGo s
  | .waitCount _ => Sys2Proof.Machine.execWaitCount s
  | .arbMatch _ _ => Sys2Proof.Machine.execArbMatch s
  | .arbWon _ _ => Sys2Proof.Machine.execArbWon s
  | .arbLost _ => Sys2Proof.Machine.execArbLost s
  | .arbBusfault _ => Sys2Proof.Machine.execArbBusfault s
  | .txNext _ _ => Sys2Proof.Machine.execTxNext s
  | .txDone _ _ => Sys2Proof.Machine.execTxDone s
  | .rxData b => Sys2Proof.Machine.execRxData b s
  | .rxSkip b => Sys2Proof.Machine.execRxSkip b s
  | .rxHdr b => Sys2Proof.Machine.execRxHdr b s
  | .rxHdrbad b => Sys2Proof.Machine.execRxHdrbad b s
  | .rxTrail b => Sys2Proof.Machine.execRxTrail b s
  | .rxDone _ => Sys2Proof.Machine.execRxDone s
  | .rxBadeof _ => Sys2Proof.Machine.execRxBadeof s
  | .ctlBadStateRxc _ => Sys2Proof.Machine.execCtlBadStateRxc s
  | .enqHalted _ => Sys2Proof.Machine.execEnqHalted s
  | .enqBad _ => Sys2Proof.Machine.execEnqBad s
  | .enqFull => Sys2Proof.Machine.execEnqFull s
  | .enq => Sys2Proof.Machine.execEnq s
  | .xcvWrmulti _ _ => Sys2Proof.Machine.execXcvWrmulti s
  | .xcvWrnone _ => Sys2Proof.Machine.execXcvWrnone s
  | .xcvWr0 => Sys2Proof.Machine.execXcvWr0 s
  | .xcvWr1 => Sys2Proof.Machine.execXcvWr1 s
  | .xcvRdmulti _ _ => Sys2Proof.Machine.execXcvRdmulti s
  | .xcvRdnone _ => Sys2Proof.Machine.execXcvRdnone s
  | .xcvRd0 => Sys2Proof.Machine.execXcvRd0 s
  | .xcvRd1 => Sys2Proof.Machine.execXcvRd1 s
  | .xcvRdbad _ => Sys2Proof.Machine.execXcvRdbad s
  | .wiresInject => Sys2Proof.Machine.execWiresInject s
  | .wiresNoinj => Sys2Proof.Machine.execWiresNoinj s
  | .wiresIdle _ => Sys2Proof.Machine.execWiresIdle s
  | .wiresNosamples _ => Sys2Proof.Machine.execWiresNosamples s
  | .wiresMismatch _ => Sys2Proof.Machine.execWiresMismatch s
  | .wiresLowhigh _ => Sys2Proof.Machine.execWiresLowhigh s
  | .wiresRange => Sys2Proof.Machine.execWiresRange s
  | .wiresResolve => Sys2Proof.Machine.execWiresResolve s
  | .wdgDormant _ => Sys2Proof.Machine.execWdgDormant s
  | .wdgRequest _ => Sys2Proof.Machine.execWdgRequest s
  | .wdgContBusy _ => Sys2Proof.Machine.execWdgContBusy s
  | .wdgSleep _ => Sys2Proof.Machine.execWdgSleep s
  | .wdgContIdle _ => Sys2Proof.Machine.execWdgContIdle s
  | .fnStuff => Sys2Proof.Machine.execFnStuff s
  | .fnDestuff => Sys2Proof.Machine.execFnDestuff s
  | .fnFrameToBits => Sys2Proof.Machine.execFnFrameToBits s
  | .fnBitsToFrame => Sys2Proof.Machine.execFnBitsToFrame s
  | .fnFrameValid => Sys2Proof.Machine.execFnFrameValid s
  | .fnArbEnd => Sys2Proof.Machine.execFnArbEnd s
  | .fnDecodeWire => Sys2Proof.Machine.execFnDecodeWire s
  | .fnReserved => Sys2Proof.Machine.execFnReserved s

end Sys2Proof.Machine
end

