-- ==== Sys2Proof/WellFormed.lean ====
section
/-! DEFINITION. Which operation terms the decoder can give. The first matching row wins (30_encoding R82), so CTL.MULTI and
CTL.NOBIT never carry a reserved STATE code: rows 2 and 3 take those. Every other term is well formed. -/
namespace Sys2Proof

/-- The STATE codes rows 4 and 5 of R84 leave over after rows 2 and 3: the five states of R22. -/
def stateNamed (s : BitVec 3) : Bool := decide (s.toNat ≤ 4)

/-- The operation is one that some selector word decodes to. -/
def WellFormed : Instr → Bool
  | .ctlMulti s _ _ _ => stateNamed s
  | .ctlNobit s _ _ => stateNamed s
  | _ => true

end Sys2Proof
end

