-- ==== Sys2Proof/Decode.lean ====
section
/-! DEFINITION. The decoder: the row tables of 30_encoding R84, R85, R88 to R91 read first match first (R82); the encoder,
written from the same tables; and the packing of a selector word into bytes. -/
namespace Sys2Proof

/-! ## The row tables -/

/-- One row of a format: `mask` has a 1 at each bit the pattern fixes, `value` the pattern's bits there. -/
structure Row (w : Nat) where
  mask : BitVec w
  value : BitVec w
  make : BitVec w → Instr

/-- The row's pattern matches the word (R82). -/
def Row.matchesWord {w : Nat} (r : Row w) (x : BitVec w) : Bool := x &&& r.mask == r.value

/-- The first row whose pattern matches (R82). -/
def firstMatch {w : Nat} : List (Row w) → BitVec w → Option Instr
  | [], _ => none
  | r :: rs, x => if r.matchesWord x then some (r.make x) else firstMatch rs x

/-- Bit `i` of a word. -/
def bitAt {w : Nat} (x : BitVec w) (i : Nat) : Bit := x.getLsbD i

/-- The `len` bits of a word from bit `lo` up. -/
def field {w : Nat} (x : BitVec w) (lo len : Nat) : BitVec len := x.extractLsb' lo len

/-- R84, rows 1 to 5. -/
def ctlCommonRows : List (Row 10) :=
  [ ⟨0b1000000000#10, 0b1000000000#10, fun x => .ctlHalted (field x 6 3) (field x 4 2) (bitAt x 3) (field x 0 3)⟩,
    ⟨0b1111000000#10, 0b0101000000#10, fun x => .ctlBadState5 (field x 4 2) (bitAt x 3) (field x 0 3)⟩,
    ⟨0b1110000000#10, 0b0110000000#10, fun x => .ctlBadState67 (bitAt x 6) (field x 4 2) (bitAt x 3) (field x 0 3)⟩,
    ⟨0b1000100000#10, 0b0000100000#10, fun x => .ctlMulti (field x 6 3) (bitAt x 4) (bitAt x 3) (field x 0 3)⟩,
    ⟨0b1000110000#10, 0b0000000000#10, fun x => .ctlNobit (field x 6 3) (bitAt x 3) (field x 0 3)⟩ ]

/-- R84, rows 6 to 11: Idle and WaitForBusIdle. -/
def ctlIdleWaitRows : List (Row 10) :=
  [ ⟨0b1111111000#10, 0b0000010000#10, fun x => .idleSof (field x 0 3)⟩,
    ⟨0b1111111100#10, 0b0000011100#10, fun x => .idleStart (field x 0 2)⟩,
    ⟨0b1111111100#10, 0b0000011000#10, fun x => .idleStay (field x 0 2)⟩,
    ⟨0b1111111000#10, 0b0001010000#10, fun x => .waitSof (field x 0 3)⟩,
    ⟨0b1111111100#10, 0b0001011100#10, fun x => .waitGo (field x 0 2)⟩,
    ⟨0b1111111100#10, 0b0001011000#10, fun x => .waitCount (field x 0 2)⟩ ]

/-- R84, rows 12 to 17: Arbitration and Transmit. -/
def ctlArbTxRows : List (Row 10) :=
  [ ⟨0b1111110110#10, 0b0010010100#10, fun x => .arbMatch (bitAt x 3) (bitAt x 0)⟩,
    ⟨0b1111110110#10, 0b0010010110#10, fun x => .arbWon (bitAt x 3) (bitAt x 0)⟩,
    ⟨0b1111111100#10, 0b0010010000#10, fun x => .arbLost (field x 0 2)⟩,
    ⟨0b1111111100#10, 0b0010011000#10, fun x => .arbBusfault (field x 0 2)⟩,
    ⟨0b1111110100#10, 0b0011010000#10, fun x => .txNext (bitAt x 3) (field x 0 2)⟩,
    ⟨0b1111110100#10, 0b0011010100#10, fun x => .txDone (bitAt x 3) (field x 0 2)⟩ ]

/-- R84, rows 18 to 25: Receive. -/
def ctlRxRows : List (Row 10) :=
  [ ⟨0b1111110111#10, 0b0100010000#10, fun x => .rxData (bitAt x 3)⟩,
    ⟨0b1111110111#10, 0b0100010001#10, fun x => .rxSkip (bitAt x 3)⟩,
    ⟨0b1111110111#10, 0b0100010010#10, fun x => .rxHdr (bitAt x 3)⟩,
    ⟨0b1111110111#10, 0b0100010011#10, fun x => .rxHdrbad (bitAt x 3)⟩,
    ⟨0b1111110111#10, 0b0100010100#10, fun x => .rxTrail (bitAt x 3)⟩,
    ⟨0b1111110111#10, 0b0100010101#10, fun x => .rxDone (bitAt x 3)⟩,
    ⟨0b1111110111#10, 0b0100010110#10, fun x => .rxBadeof (bitAt x 3)⟩,
    ⟨0b1111110111#10, 0b0100010111#10, fun x => .ctlBadStateRxc (bitAt x 3)⟩ ]

/-- R84, all rows in decode order. -/
def ctlRows : List (Row 10) := ctlCommonRows ++ ctlIdleWaitRows ++ ctlArbTxRows ++ ctlRxRows

/-- R85. -/
def hostRows : List (Row 3) :=
  [ ⟨0b100#3, 0b100#3, fun x => .enqHalted (field x 0 2)⟩,
    ⟨0b110#3, 0b000#3, fun x => .enqBad (bitAt x 0)⟩,
    ⟨0b111#3, 0b011#3, fun _ => .enqFull⟩,
    ⟨0b111#3, 0b010#3, fun _ => .enq⟩ ]

/-- R88, format XW. -/
def xwRows : List (Row 3) :=
  [ ⟨0b100#3, 0b100#3, fun x => .xcvWrmulti (bitAt x 1) (bitAt x 0)⟩,
    ⟨0b110#3, 0b000#3, fun x => .xcvWrnone (bitAt x 0)⟩,
    ⟨0b111#3, 0b010#3, fun _ => .xcvWr0⟩,
    ⟨0b111#3, 0b011#3, fun _ => .xcvWr1⟩ ]

/-- R88, format XR. -/
def xrRows : List (Row 4) :=
  [ ⟨0b1000#4, 0b1000#4, fun x => .xcvRdmulti (bitAt x 2) (field x 0 2)⟩,
    ⟨0b1100#4, 0b0000#4, fun x => .xcvRdnone (field x 0 2)⟩,
    ⟨0b1111#4, 0b0100#4, fun _ => .xcvRd0⟩,
    ⟨0b1111#4, 0b0101#4, fun _ => .xcvRd1⟩,
    ⟨0b1110#4, 0b0110#4, fun x => .xcvRdbad (bitAt x 0)⟩ ]

/-- R89, format WI. -/
def wiRows : List (Row 1) :=
  [ ⟨0b1#1, 0b1#1, fun _ => .wiresInject⟩,
    ⟨0b1#1, 0b0#1, fun _ => .wiresNoinj⟩ ]

/-- R89, format WR. -/
def wrRows : List (Row 5) :=
  [ ⟨0b10000#5, 0b00000#5, fun x => .wiresIdle (field x 0 4)⟩,
    ⟨0b11000#5, 0b11000#5, fun x => .wiresNosamples (field x 0 3)⟩,
    ⟨0b11100#5, 0b10100#5, fun x => .wiresMismatch (field x 0 2)⟩,
    ⟨0b11110#5, 0b10010#5, fun x => .wiresLowhigh (bitAt x 0)⟩,
    ⟨0b11111#5, 0b10001#5, fun _ => .wiresRange⟩,
    ⟨0b11111#5, 0b10000#5, fun _ => .wiresResolve⟩ ]

/-- R90. -/
def wdRows : List (Row 4) :=
  [ ⟨0b1000#4, 0b0000#4, fun x => .wdgDormant (field x 0 3)⟩,
    ⟨0b1110#4, 0b1010#4, fun x => .wdgRequest (bitAt x 0)⟩,
    ⟨0b1110#4, 0b1000#4, fun x => .wdgContBusy (bitAt x 0)⟩,
    ⟨0b1101#4, 0b1101#4, fun x => .wdgSleep (bitAt x 1)⟩,
    ⟨0b1101#4, 0b1100#4, fun x => .wdgContIdle (bitAt x 1)⟩ ]

/-- R91. -/
def fnRows : List (Row 3) :=
  [ ⟨0b111#3, 0b000#3, fun _ => .fnStuff⟩,
    ⟨0b111#3, 0b001#3, fun _ => .fnDestuff⟩,
    ⟨0b111#3, 0b010#3, fun _ => .fnFrameToBits⟩,
    ⟨0b111#3, 0b011#3, fun _ => .fnBitsToFrame⟩,
    ⟨0b111#3, 0b100#3, fun _ => .fnFrameValid⟩,
    ⟨0b111#3, 0b101#3, fun _ => .fnArbEnd⟩,
    ⟨0b111#3, 0b110#3, fun _ => .fnDecodeWire⟩,
    ⟨0b111#3, 0b111#3, fun _ => .fnReserved⟩ ]

/-- The operation a selector word chooses (R82). Every word has one. -/
def decode : Selector → Option Instr
  | .ctl w => firstMatch ctlRows w
  | .host w => firstMatch hostRows w
  | .xw w => firstMatch xwRows w
  | .xr w => firstMatch xrRows w
  | .wi w => firstMatch wiRows w
  | .wr w => firstMatch wrRows w
  | .wd w => firstMatch wdRows w
  | .fn w => firstMatch fnRows w

/-! ## Selector words as bytes

A selector word alone does not say which format it is of: the agent that computes it does. To stand alone it carries the
format's number, the model's own packing (log 13, DESIGN CHOICE): a CTL word is two bytes, high byte first, whose six bits
above the selector are 0; a word of another format is one byte, its format's number 1 to 7 in bits 7..5 and the selector
below. -/

/-- Why bytes are no operation word. -/
inductive DecodeError where
  /-- No byte is left. -/
  | noBytes
  /-- A CTL word's second byte is missing; also a one-byte word that names no format. -/
  | truncated
  /-- A bit between the format's number and the selector is not 0. -/
  | strayBits
  /-- No row matches the selector (it cannot happen: R82, the decode is total). -/
  | noRow
deriving DecidableEq, Repr

/-- The selector of a byte of format number `tag` (1 to 7), from its low five bits. -/
def selectorOfByte (b : Byte) : Except DecodeError Selector :=
  let low := field b 0 5
  match (field b 5 3).toNat with
  | 1 => if low.toNat < 8 then .ok (.host (low.setWidth 3)) else .error .strayBits
  | 2 => if low.toNat < 8 then .ok (.xw (low.setWidth 3)) else .error .strayBits
  | 3 => if low.toNat < 16 then .ok (.xr (low.setWidth 4)) else .error .strayBits
  | 4 => if low.toNat < 2 then .ok (.wi (low.setWidth 1)) else .error .strayBits
  | 5 => .ok (.wr low)
  | 6 => if low.toNat < 16 then .ok (.wd (low.setWidth 4)) else .error .strayBits
  | 7 => if low.toNat < 8 then .ok (.fn (low.setWidth 3)) else .error .strayBits
  | _ => .error .truncated

/-- The first selector word in a list of bytes, and the bytes after it. -/
def selectorOfBytes : List Byte → Except DecodeError (Selector × List Byte)
  | [] => .error .noBytes
  | b :: bs =>
    if field b 5 3 = 0 then
      match bs with
      | [] => .error .truncated
      | b' :: rest => if b.toNat < 4 then .ok (.ctl (field b 0 2 ++ b'), rest) else .error .strayBits
    else
      match selectorOfByte b with
      | .ok sel => .ok (sel, bs)
      | .error e => .error e

/-- The first operation in a list of bytes, and the bytes after it. Total; rejects by name. -/
def decodeBytes (bs : List Byte) : Except DecodeError (Instr × List Byte) :=
  match selectorOfBytes bs with
  | .error e => .error e
  | .ok (sel, rest) =>
    match decode sel with
    | some i => .ok (i, rest)
    | none => .error .noRow

/-- The operation of a table word: one byte where the table gives at most 8 bits, two bytes (high byte first) otherwise. The
table's one-byte words carry no format number. A bare byte from 16 to 31 is a word of format WR, the only format of at most 8 bits
that has bit 4; a bare byte below 16 can be a word of several formats and is refused (log 13). -/
def decodeTableWord (nbits w : Nat) : Option Instr :=
  if nbits ≤ 8 ∧ 16 ≤ w ∧ w < 32 then decode (.wr (BitVec.ofNat 5 w))
  else
    let bytes : List Byte := if nbits ≤ 8 then [BitVec.ofNat 8 w] else [BitVec.ofNat 8 (w / 256), BitVec.ofNat 8 w]
    match decodeBytes bytes with
    | .ok (i, []) => some i
    | _ => none

/-! ## The encoder -/

/-- One bit as a vector. -/
def bit1 (b : Bit) : BitVec 1 := BitVec.ofBool b

/-- The selector word of an operation, from the patterns of R84, R85, R88 to R91. -/
def encode : Instr → Selector
  | .ctlHalted s n b c => .ctl (0b1#1 ++ s ++ n ++ bit1 b ++ c)
  | .ctlBadState5 n b c => .ctl (0b0101#4 ++ n ++ bit1 b ++ c)
  | .ctlBadState67 l n b c => .ctl (0b011#3 ++ bit1 l ++ n ++ bit1 b ++ c)
  | .ctlMulti s n b c => .ctl (0b0#1 ++ s ++ 0b1#1 ++ bit1 n ++ bit1 b ++ c)
  | .ctlNobit s b c => .ctl (0b0#1 ++ s ++ 0b00#2 ++ bit1 b ++ c)
  | .idleSof c => .ctl (0b0000010#7 ++ c)
  | .idleStart c => .ctl (0b00000111#8 ++ c)
  | .idleStay c => .ctl (0b00000110#8 ++ c)
  | .waitSof c => .ctl (0b0001010#7 ++ c)
  | .waitGo c => .ctl (0b00010111#8 ++ c)
  | .waitCount c => .ctl (0b00010110#8 ++ c)
  | .arbMatch b c => .ctl (0b001001#6 ++ bit1 b ++ 0b10#2 ++ bit1 c)
  | .arbWon b c => .ctl (0b001001#6 ++ bit1 b ++ 0b11#2 ++ bit1 c)
  | .arbLost c => .ctl (0b00100100#8 ++ c)
  | .arbBusfault c => .ctl (0b00100110#8 ++ c)
  | .txNext b c => .ctl (0b001101#6 ++ bit1 b ++ 0b0#1 ++ c)
  | .txDone b c => .ctl (0b001101#6 ++ bit1 b ++ 0b1#1 ++ c)
  | .rxData b => .ctl (0b010001#6 ++ bit1 b ++ 0b000#3)
  | .rxSkip b => .ctl (0b010001#6 ++ bit1 b ++ 0b001#3)
  | .rxHdr b => .ctl (0b010001#6 ++ bit1 b ++ 0b010#3)
  | .rxHdrbad b => .ctl (0b010001#6 ++ bit1 b ++ 0b011#3)
  | .rxTrail b => .ctl (0b010001#6 ++ bit1 b ++ 0b100#3)
  | .rxDone b => .ctl (0b010001#6 ++ bit1 b ++ 0b101#3)
  | .rxBadeof b => .ctl (0b010001#6 ++ bit1 b ++ 0b110#3)
  | .ctlBadStateRxc b => .ctl (0b010001#6 ++ bit1 b ++ 0b111#3)
  | .enqHalted vf => .host (0b1#1 ++ vf)
  | .enqBad f => .host (0b00#2 ++ bit1 f)
  | .enqFull => .host 0b011#3
  | .enq => .host 0b010#3
  | .xcvWrmulti n b => .xw (0b1#1 ++ bit1 n ++ bit1 b)
  | .xcvWrnone b => .xw (0b00#2 ++ bit1 b)
  | .xcvWr0 => .xw 0b010#3
  | .xcvWr1 => .xw 0b011#3
  | .xcvRdmulti n k => .xr (0b1#1 ++ bit1 n ++ k)
  | .xcvRdnone k => .xr (0b00#2 ++ k)
  | .xcvRd0 => .xr 0b0100#4
  | .xcvRd1 => .xr 0b0101#4
  | .xcvRdbad k => .xr (0b011#3 ++ bit1 k)
  | .wiresInject => .wi 0b1#1
  | .wiresNoinj => .wi 0b0#1
  | .wiresIdle mcpr => .wr (0b0#1 ++ mcpr)
  | .wiresNosamples cpr => .wr (0b11#2 ++ cpr)
  | .wiresMismatch pr => .wr (0b101#3 ++ pr)
  | .wiresLowhigh r => .wr (0b1001#4 ++ bit1 r)
  | .wiresRange => .wr 0b10001#5
  | .wiresResolve => .wr 0b10000#5
  | .wdgDormant ast => .wd (0b0#1 ++ ast)
  | .wdgRequest t => .wd (0b101#3 ++ bit1 t)
  | .wdgContBusy t => .wd (0b100#3 ++ bit1 t)
  | .wdgSleep s => .wd (0b11#2 ++ bit1 s ++ 0b1#1)
  | .wdgContIdle s => .wd (0b11#2 ++ bit1 s ++ 0b0#1)
  | .fnStuff => .fn 0b000#3
  | .fnDestuff => .fn 0b001#3
  | .fnFrameToBits => .fn 0b010#3
  | .fnBitsToFrame => .fn 0b011#3
  | .fnFrameValid => .fn 0b100#3
  | .fnArbEnd => .fn 0b101#3
  | .fnDecodeWire => .fn 0b110#3
  | .fnReserved => .fn 0b111#3

/-- The bytes of a selector word. -/
def Selector.bytes : Selector → List Byte
  | .ctl w => [(0#6 ++ field w 8 2 : BitVec 8), field w 0 8]
  | .host w => [(0b001#3 ++ w.setWidth 5 : BitVec 8)]
  | .xw w => [(0b010#3 ++ w.setWidth 5 : BitVec 8)]
  | .xr w => [(0b011#3 ++ w.setWidth 5 : BitVec 8)]
  | .wi w => [(0b100#3 ++ w.setWidth 5 : BitVec 8)]
  | .wr w => [(0b101#3 ++ w : BitVec 8)]
  | .wd w => [(0b110#3 ++ w.setWidth 5 : BitVec 8)]
  | .fn w => [(0b111#3 ++ w.setWidth 5 : BitVec 8)]

/-- The bytes of an operation. -/
def encodeBytes (i : Instr) : List Byte := (encode i).bytes

end Sys2Proof
end

