-- ==== Sys2Proof/Machine/Fetch.lean ====
section
/-! DEFINITION. Which selector word the state has now (30_encoding R82, 42_controller R140, 41_physical R120, R128): that of the
agent whose turn it is, or of a codec call that waits. And, for `State.withFetchWord`, a state whose next selector chooses a
given operation. -/
namespace Sys2Proof.Machine

/-- The selector of a node's operation, when the node exists. -/
def nodeSelector (s : State) (k : Node → Except Fault Selector) : Except Fault Selector :=
  match s.node? with
  | none => .error .noSuchNode
  | some nd => k nd

/-- The controller's next selector: one HOST word for each frame of `in ctl_enq`, then the CTL word (R85, R140). -/
def controllerSelector (s : State) (nd : Node) : Except Fault Selector :=
  match enqFrame s nd with
  | some f => .ok (.host (hostSelector s nd f))
  | none =>
    match ctlSelector s.seq.halted nd with
    | .ok w => .ok (.ctl w)
    | .error e => .error e

/-- The selector word the next step decodes. -/
def fetch (s : State) : Except Fault Selector :=
  match s.fn.call with
  | some id => .ok (.fn id)
  | none =>
    match s.seq.stage with
    | .ctl => nodeSelector s (controllerSelector s)
    | .xw => nodeSelector s fun nd => .ok (.xw (xwSelector nd))
    | .xr => nodeSelector s fun nd => .ok (.xr (xrSelector s.cfg nd))
    | .wi => .ok (.wi (wiSelector s.wires))
    | .wr => .ok (.wr (wrSelector s.cfg s.wires))
    | .wd => .ok (.wd (wdSelector s.cfg s.wd))

/-- The operation the state selects (R82). -/
def selected (s : State) : Option Instr :=
  match fetch s with
  | .ok sel => decode sel
  | .error _ => none

/-! ## A state whose next selector chooses a given operation (log 14) -/

/-- A valid frame to put where a frame is needed. -/
def sampleFrame : Frame := ⟨0x123, 1, [0xA5]⟩

/-- An entry of a frame with its cursor at `off`. -/
def entryAt (f : Frame) (off : BitVec 7) : TxEntry := { newEntry f with off := off }

/-- No codec call waits; it is the turn of `stage` of node 0. -/
def aim (stage : Stage) (s : State) : State :=
  { s with seq := { Sequencer.start false with stage := stage }, fn := { s.fn with call := none } }

/-- Change node 0. -/
def onNode0 (g : Node → Node) (s : State) : State :=
  match s.nodes with
  | nd :: nds => { s with nodes := g nd :: nds }
  | [] => s

/-- Controller 0 gets the given bus bits and no enqueue, after `g` on its registers. -/
def aimCtl (bits : List Bit) (g : Controller → Controller) (s : State) : State :=
  onNode0 (fun nd => { nd with ctl := g nd.ctl, inp := { nd.inp with ctlRxBit := bits, ctlEnq := [] } }) (aim .ctl s)

/-- The HALT latch is set. -/
def withHalt (s : State) : State := { s with seq := { s.seq with halted := true } }

/-- Bus bits whose count field is `n` and whose bit field is `b`. -/
def bitsOf (n : BitVec 2) (b : Bit) : List Bit :=
  match n.toNat with
  | 0 => []
  | 1 => [b]
  | _ => [b, b]

/-- STATE and the head entry. -/
def inState (st : BitVec 3) (q : List TxEntry) (c : Controller) : Controller := { c with state := st, txq := q }

/-- Receive with the given assembler. -/
def inReceive (a : Assembler) (c : Controller) : Controller := { c with state := CtlState.receive, rx := a }

/-- An assembler that holds a complete header with DLC 0 and `trl` trailer bits. -/
def trailerAssembler (trl : BitVec 4) (bad : Bool) : Assembler :=
  { Assembler.reset with data := List.replicate 11 recessive ++ List.replicate 5 dominant, hdr := true, trl := trl, trlBad := bad }

/-- An assembler one bit short of the header; the three DLC bits it holds are `dlc3`. -/
def headerAssembler (dlc3 : List Bit) : Assembler := { Assembler.reset with data := List.replicate 12 dominant ++ dlc3 }

/-- Node 0 gets one frame to enqueue. -/
def aimEnq (f : Frame) (s : State) : State :=
  onNode0 (fun nd => { nd with inp := { nd.inp with ctlEnq := [f] } }) (aim .ctl s)

/-- Transceiver 0 gets the given bits. -/
def aimWrite (bits : List Bit) (s : State) : State :=
  onNode0 (fun nd => { nd with inp := { nd.inp with xcvTxBit := bits } }) (aim .xw s)

/-- Transceiver 0 gets the given bus values. -/
def aimRead (lows highs : List Voltage) (s : State) : State :=
  onNode0 (fun nd => { nd with inp := { nd.inp with xcvBusLow := lows, xcvBusHigh := highs } }) (aim .xr s)

/-- The wires hold the given INJ and no request. -/
def aimInject (inj : Nat) (s : State) : State :=
  let s' := aim .wi s
  { s' with wires := { s'.wires with inj := inj, wReq := [] } }

/-- The wires hold the given working lists. -/
def aimResolve (lows highs : List Voltage) (s : State) : State :=
  let s' := aim .wr s
  { s' with wires := { s'.wires with lows := lows, highs := highs } }

/-- The watchdog last saw every node in `st`; it has the given counter and the given bus values, no report. -/
def aimWatch (st : BitVec 3) (idle : Nat) (active : Bool) (bus : List Voltage) (s : State) : State :=
  let s' := aim .wd s
  { s' with wd := { s'.wd with last := s'.nodes.map fun _ => st, idle := idle, active := active,
                               wdState := [], wdBusLow := bus, wdBusHigh := bus } }

/-- A codec call waits. -/
def aimCall (id : BitVec 3) (s : State) : State := { s with fn := { s.fn with call := some id } }

/-- `s` changed so that its next step runs operation `i`. One operation has no such state: CTL.BADSTATE by receive class 111,
which R87 never produces; its image runs another row of Receive (log 14). -/
def aimAt (i : Instr) (s : State) : State :=
  match i with
  | .ctlHalted st n b _ => withHalt (aimCtl (bitsOf n b) (fun c => { c with state := st }) s)
  | .ctlBadState5 n b _ => aimCtl (bitsOf n b) (fun c => { c with state := 5#3 }) s
  | .ctlBadState67 l n b _ => aimCtl (bitsOf n b) (fun c => { c with state := if l then 7#3 else 6#3 }) s
  | .ctlMulti st _ b _ => aimCtl [b, b] (fun c => { c with state := st }) s
  | .ctlNobit st _ _ => aimCtl [] (fun c => { c with state := st }) s
  | .idleSof _ => aimCtl [dominant] (fun c => { c with state := CtlState.idle }) s
  | .idleStart _ => aimCtl [recessive] (inState CtlState.idle [newEntry sampleFrame]) s
  | .idleStay _ => aimCtl [recessive] (inState CtlState.idle []) s
  | .waitSof _ => aimCtl [dominant] (fun c => { c with state := CtlState.wait }) s
  | .waitGo _ => aimCtl [recessive] (fun c => { inState CtlState.wait [newEntry sampleFrame] c with wcnt := 10 }) s
  | .waitCount _ => aimCtl [recessive] (fun c => { c with state := CtlState.wait, wcnt := 0 }) s
  | .arbMatch b _ => aimCtl [b] (inState CtlState.arbitration [entryAt sampleFrame (if b then 4 else 1)]) s
  | .arbWon b _ => aimCtl [b] (inState CtlState.arbitration [entryAt (if b then sampleFrame else ⟨0x122, 0, []⟩) 12]) s
  | .arbLost _ => aimCtl [dominant] (inState CtlState.arbitration [entryAt sampleFrame 4]) s
  | .arbBusfault _ => aimCtl [recessive] (inState CtlState.arbitration [entryAt sampleFrame 1]) s
  | .txNext b _ => aimCtl [b] (inState CtlState.transmit [entryAt sampleFrame 13]) s
  | .txDone b _ => aimCtl [b] (inState CtlState.transmit [entryAt sampleFrame 34]) s
  | .rxData b => aimCtl [b] (inReceive Assembler.reset) s
  | .rxSkip b => aimCtl [b] (inReceive { Assembler.reset with skip := true }) s
  | .rxHdr b => aimCtl [b] (inReceive (headerAssembler [false, false, false])) s
  | .rxHdrbad b => aimCtl [b] (inReceive (headerAssembler [true, false, true])) s
  | .rxTrail b => aimCtl [b] (inReceive (trailerAssembler 0 false)) s
  | .rxDone _ => aimCtl [recessive] (inReceive (trailerAssembler 9 false)) s
  | .rxBadeof b => aimCtl [b] (inReceive (trailerAssembler 9 true)) s
  | .ctlBadStateRxc b => aimCtl [b] (inReceive Assembler.reset) s
  | .enqHalted vf => withHalt (aimEnq (if bitAt vf 1 then sampleFrame else ⟨0x800, 0, []⟩) s)
  | .enqBad _ => aimEnq ⟨0x800, 0, []⟩ s
  | .enqFull =>
    let s' := onNode0 (fun nd => { nd with ctl := { nd.ctl with txq := [newEntry sampleFrame] } }) (aimEnq sampleFrame s)
    { s' with cfg := { s'.cfg with txqDepth := some 1 } }
  | .enq =>
    let s' := aimEnq sampleFrame s
    { s' with cfg := { s'.cfg with txqDepth := none } }
  | .xcvWrmulti _ b => aimWrite [b, b] s
  | .xcvWrnone _ => aimWrite [] s
  | .xcvWr0 => aimWrite [dominant] s
  | .xcvWr1 => aimWrite [recessive] s
  | .xcvRdmulti _ _ => aimRead [s.cfg.vRec, s.cfg.vRec] [s.cfg.vRec, s.cfg.vRec] s
  | .xcvRdnone _ => aimRead [] [] s
  | .xcvRd0 => aimRead [s.cfg.vDomLow] [s.cfg.vDomHigh] s
  | .xcvRd1 => aimRead [s.cfg.vRec] [s.cfg.vRec] s
  | .xcvRdbad _ => aimRead [s.cfg.vDomLow] [s.cfg.vRec] s
  | .wiresInject => aimInject 1 s
  | .wiresNoinj => aimInject 0 s
  | .wiresIdle _ => aimResolve [] [] s
  | .wiresNosamples _ => aimResolve [s.cfg.vRec] [] s
  | .wiresMismatch _ => aimResolve [s.cfg.vRec, s.cfg.vRec] [s.cfg.vRec] s
  | .wiresLowhigh _ => aimResolve [s.cfg.vDomHigh] [s.cfg.vDomLow] s
  | .wiresRange => aimResolve [s.cfg.vMax + 1] [s.cfg.vMax + 1] s
  | .wiresResolve => aimResolve [s.cfg.vRec] [s.cfg.vRec] s
  | .wdgDormant ast => aimWatch (if bitAt ast 2 then CtlState.idle else CtlState.wait) 0 false [] s
  | .wdgRequest _ => aimWatch CtlState.wait s.cfg.tStart true [] s
  | .wdgContBusy _ => aimWatch CtlState.wait 0 true [s.cfg.vRec] s
  | .wdgSleep _ => aimWatch CtlState.idle s.cfg.tStop true [] s
  | .wdgContIdle _ => aimWatch CtlState.idle 0 true [s.cfg.vRec] s
  | .fnStuff => aimCall 0b000#3 { s with fn := { s.fn with k := stuffK } }
  | .fnDestuff => aimCall 0b001#3 { s with fn := { s.fn with k := stuffK } }
  | .fnFrameToBits => aimCall 0b010#3 s
  | .fnBitsToFrame => aimCall 0b011#3 s
  | .fnFrameValid => aimCall 0b100#3 s
  | .fnArbEnd => aimCall 0b101#3 s
  | .fnDecodeWire => aimCall 0b110#3 s
  | .fnReserved => aimCall 0b111#3 s

end Sys2Proof.Machine
end

