-- ==== Sys2Proof/Machine/Sequencer.lean ====
section
/-! DEFINITION. What stands around the operations in a system step (20_memory R51 to R54): the state report that ends a
controller's step (42_controller R140, R141), whose operation comes next, and the delivery of every channel at the end. -/
namespace Sys2Proof.Machine

/-! ## The end of a controller's step -/

/-- `emit ctl_state <- (n, STATE)`. -/
def NodeOut.emitReport (o : NodeOut) (n : Nat) (st : BitVec 3) : NodeOut := { o with report := o.report ++ [⟨n, st⟩] }

/-- The controller consumed an input in this step (R141). -/
def tookInput (nd : Node) : Bool := !nd.inp.ctlEnq.isEmpty || !nd.inp.ctlRxBit.isEmpty

/-- The state report of R141: only by a controller that took an input, raised no fault, and is not halted (R142). -/
def reportState (s : State) : State :=
  match s.node? with
  | none => s
  | some nd =>
    if !s.seq.halted && !s.seq.ended && tookInput nd then
      s.putNode { nd with out := nd.out.emitReport s.seq.node nd.ctl.state }
    else s

/-! ## Fan-in (R53, R138) -/

/-- Put `x` at place `k` of a list, or at its end. -/
def insertAt {α : Type} : List α → Nat → α → List α
  | [], _, x => [x]
  | y :: ys, 0, x => x :: y :: ys
  | y :: ys, k + 1, x => y :: insertAt ys k x

/-- The arrangement of a fan-in list that a code draws: the code's i-th number is the place element i takes among those after
it. Every code gives a permutation and every permutation has a code; the empty code is ascending node order. -/
def arrange {α : Type} : List α → List Nat → List α
  | [], _ => []
  | x :: xs, code => insertAt (arrange xs code.tail) (code.headD 0) x

/-- The draw of this system step: the next of `draws`; ascending node order when none is left, which R53 allows (log 5). -/
def State.draw (s : State) : FanDraw := s.draws.headD ⟨[], [], []⟩

/-! ## The end of a system step (R51, R52) -/

/-- HALT of R192: some agent's FAULT.code is not 0. -/
def State.anyFault (s : State) : Bool :=
  s.wires.fault.latched || s.nodes.any fun nd => nd.ctl.fault.latched || nd.xcvFault.latched

/-- hostEnq[n] for step t (R51, R36): the scheduled frames, in schedule order. -/
def framesFor (sched : List Delivery) (t n : Nat) : List Frame :=
  (sched.filter fun d => d.time == t && d.node == n).map Delivery.frame

/-- Node n at the start of the next step: its emits and the bus pair are delivered, what was not read is gone (R52). -/
def Node.deliver (nd : Node) (enq : List Frame) (busLow busHigh : List Voltage) : Node where
  ctl := nd.ctl
  xcvFault := nd.xcvFault
  inp :=
    { ctlRxBit := nd.out.rxBit
      ctlEnq := enq
      xcvTxBit := nd.out.txBit
      xcvBusLow := busLow
      xcvBusHigh := busHigh
      hostFrame := nd.out.frameOut }
  out := NodeOut.empty

/-- `Node.deliver` on the nodes from index n on; the wires' pair goes to every transceiver (R34). -/
def deliverNodes (sched : List Delivery) (t : Nat) (busLow busHigh : List Voltage) (n : Nat) : List Node → List Node
  | [] => []
  | nd :: nds => nd.deliver (framesFor sched t n) busLow busHigh :: deliverNodes sched t busLow busHigh (n + 1) nds

/-- The wires at the start of the next step: fan-in of every transceiver's lines, and the watchdog's requests (R34, R53). -/
def Wires.deliver (w : Wires) (lows highs : List Voltage) (reqs : List RecessiveRequest) : Wires :=
  { w with wLow := lows, wHigh := highs, wReq := reqs, lows := [], highs := [], busLow := [], busHigh := [] }

/-- The watchdog at the start of the next step: fan-in of every controller's report, and the bus pair (R35, R53). -/
def Watchdog.deliver (w : Watchdog) (reports : List StateReport) (busLow busHigh : List Voltage) : Watchdog :=
  { w with wdState := reports, wdBusLow := busLow, wdBusHigh := busHigh, req := [] }

/-- `S.channel'` and `S.t <- S.t + 1` (R51): the end of a system step. -/
def State.commit (s : State) : State :=
  { s with
    t := s.t + 1
    nodes := deliverNodes s.sched (s.t + 1) s.wires.busLow s.wires.busHigh 0 s.nodes
    wires := s.wires.deliver (arrange (s.nodes.flatMap fun nd => nd.out.canLow) s.draw.low)
      (arrange (s.nodes.flatMap fun nd => nd.out.canHigh) s.draw.high) s.wd.req
    wd := s.wd.deliver (arrange (s.nodes.flatMap fun nd => nd.out.report) s.draw.report) s.wires.busLow s.wires.busHigh
    seq := Sequencer.start s.anyFault
    draws := s.draws.tail
    sched := s.sched.filter fun d => decide (s.t + 1 < d.time) }

/-! ## Whose operation comes next (log 1) -/

/-- The turn passes to `stage` of node n. -/
def State.turn (s : State) (stage : Stage) (n : Nat) : State :=
  { s with seq := { s.seq with stage := stage, node := n, enqIdx := 0, ended := false } }

/-- The next agent's turn: controllers, transceivers, wires, watchdog. In a halted step only the controllers have one (R192). -/
def State.nextAgent (s : State) : State :=
  match s.seq.stage with
  | .ctl =>
    if s.seq.node + 1 < s.nodes.length then s.turn .ctl (s.seq.node + 1)
    else if s.seq.halted then s.commit
    else s.turn .xw 0
  | .xw | .xr => if s.seq.node + 1 < s.nodes.length then s.turn .xw (s.seq.node + 1) else s.turn .wi 0
  | .wi | .wr => s.turn .wd 0
  | .wd => s.commit

/-- After an enqueue operation: the next frame; when a fault was raised and no frame is left, the CTL step is left out (R140). -/
def State.afterEnq (s : State) : State :=
  let s' : State := { s with seq := { s.seq with enqIdx := s.seq.enqIdx + 1 } }
  match s.node? with
  | none => s'
  | some nd => if s.seq.ended && decide (nd.inp.ctlEnq.length ≤ s.seq.enqIdx + 1) then s.nextAgent else s'

/-- After an operation of the given format. A codec call takes no agent's turn (log 7). -/
def State.advance (s : State) (f : Format) : State :=
  match f with
  | .host => s.afterEnq
  | .ctl => (reportState s).nextAgent
  | .xw => if s.seq.ended then s.nextAgent else { s with seq := { s.seq with stage := .xr } }
  | .xr => s.nextAgent
  | .wi => { s with seq := { s.seq with stage := .wr } }
  | .wr => s.nextAgent
  | .wd => s.nextAgent
  | .fn => { s with fn := { s.fn with call := none } }

end Sys2Proof.Machine
end

