-- ==== Sys2Proof/Machine/Step.lean ====
section
/-! DEFINITION. One step of the model: one operation of one agent (log 1). -/
namespace Sys2Proof.Machine

/-- Compute the selector, decode it, run the operation, pass the turn on. -/
def step (s : State) : Host.Outcome State Fault Refusal :=
  match fetch s with
  | .error e => .fault e
  | .ok sel =>
    match decode sel with
    | none => .refused .undecoded
    | some i =>
      match exec i s with
      | .next s' => .next (s'.advance sel.format)
      | .fault e => .fault e
      | .refused r => .refused r

/-- `s` with the table word `w` as its next selector: what the machine selects by is its registers and ports, so those are set
(log 14). A word the decoder refuses changes nothing. -/
def State.withFetchWord (s : State) (nbits w : Nat) : State :=
  match decodeTableWord nbits w with
  | some i => aimAt i s
  | none => s

end Sys2Proof.Machine
end

