-- ==== Sys2Proof/Machine/System.lean ====
section
/-! DEFINITION. The system level: a whole system step (20_memory R51) as the run of its operations, the state after reset with
the host's inputs (70_reset R221), quiescence (60_exceptions R212), the error report (R194), the directives of the stimulus
notation (30_encoding R94), and a run with its result (R213). -/
namespace Sys2Proof.Machine

/-! ## A system step -/

/-- A system step is about to begin. -/
def State.atBoundary (s : State) : Bool :=
  decide (s.seq.stage = .ctl) && decide (s.seq.node = 0) && decide (s.seq.enqIdx = 0) && !s.seq.ended

/-- At most so many operations make up a system step: the enqueues, one CTL operation a controller, two a transceiver, two of the
wires, one of the watchdog. -/
def State.operationBound (s : State) : Nat :=
  (s.nodes.map fun nd => nd.inp.ctlEnq.length).sum + 3 * s.nodes.length + 3

/-- Run operations until the step number changes, at most `fuel` of them. -/
def runToBoundary : Nat → State → Result
  | 0, s => .next s
  | fuel + 1, s =>
    match step s with
    | .next s' => if s'.t = s.t then runToBoundary fuel s' else .next s'
    | .fault e => .fault e
    | .refused r => .refused r

/-- SystemStep (R51) from the beginning of a system step. -/
def systemStep (s : State) : Result := runToBoundary s.operationBound s

/-- The operations run until the step number changes, at most `fuel` of them: whose turn it was, and the format. -/
def operationsToBoundary : Nat → State → List (Nat × Format)
  | 0, _ => []
  | fuel + 1, s =>
    match fetch s, step s with
    | .ok sel, .next s' => (s.seq.node, sel.format) :: if s'.t = s.t then operationsToBoundary fuel s' else []
    | _, _ => []

/-- The operations of the system step that begins at `s`, in the order they are run. -/
def systemOperations (s : State) : List (Nat × Format) := operationsToBoundary s.operationBound s

/-- The operations of node n's turns that have one of the given formats (the wires' and the watchdog's turns stand under node 0). -/
def operationsOf (ops : List (Nat × Format)) (n : Nat) (formats : List Format) : List (Nat × Format) :=
  ops.filter fun x => x.1 == n && formats.contains x.2

/-- k system steps. -/
def systemSteps : Nat → State → Result
  | 0, s => .next s
  | k + 1, s =>
    match systemStep s with
    | .next s' => systemSteps k s'
    | .fault e => .fault e
    | .refused r => .refused r

/-! ## Reset with the host's inputs -/

/-- Reset with a host schedule and fan-in draws: in step 0 every port is empty but `ctl_enq`, which carries the frames of
step 0 (R221, R36). -/
def State.powerUp (c : Config) (sched : List Delivery) (draws : List FanDraw) : State :=
  let s := State.resetWith c
  { s with
    nodes := deliverNodes sched 0 [] [] 0 s.nodes
    draws := draws
    sched := sched.filter fun d => decide (0 < d.time) }

/-! ## Quiescence, report, end of run -/

/-- Every input port is empty. -/
def NodeIn.isEmpty (i : NodeIn) : Bool := decide (i = NodeIn.empty)

/-- Every channel is empty (R212): the ports of the nodes, the wires and the watchdog. -/
def State.channelsEmpty (s : State) : Bool :=
  s.nodes.all (fun nd => nd.inp.isEmpty) && s.wires.wLow.isEmpty && s.wires.wHigh.isEmpty && s.wires.wReq.isEmpty &&
    s.wd.wdState.isEmpty && s.wd.wdBusLow.isEmpty && s.wd.wdBusHigh.isEmpty

/-- The system is quiescent at the end of a system step (R212). -/
def State.quiescent (s : State) : Bool :=
  s.atBoundary && s.channelsEmpty && decide (s.wires.inj = 0) && !s.wd.active && !s.anyFault

/-- An agent that can fault (R28). -/
inductive AgentId where
  | controller (n : Nat)
  | transceiver (n : Nat)
  | wires
deriving DecidableEq, Repr

/-- The latched records of a list of registers, numbered from n. -/
def faultsFrom (mk : Nat → AgentId) (n : Nat) : List FaultReg → List (AgentId × FaultReg)
  | [] => []
  | r :: rs => if r.latched then (mk n, r) :: faultsFrom mk (n + 1) rs else faultsFrom mk (n + 1) rs

/-- The error report (R194): every faulting agent, controllers, then transceivers, then the wires. -/
def errorReport (s : State) : List (AgentId × FaultReg) :=
  faultsFrom .controller 0 (s.nodes.map fun nd => nd.ctl.fault) ++
    faultsFrom .transceiver 0 (s.nodes.map fun nd => nd.xcvFault) ++
    (if s.wires.fault.latched then [(.wires, s.wires.fault)] else [])

/-- The system is quiescent and the host has nothing scheduled for a later step: a run ends here without a fault (R213). -/
def State.runQuiesced (s : State) : Bool := s.quiescent && s.sched.isEmpty

/-- A run has ended (R213): a fault is latched, or it has quiesced. -/
def State.runEnded (s : State) : Bool := s.anyFault || s.runQuiesced

/-- The frames delivered to the host in this step (R36). -/
def State.hostFrames (s : State) : List (List Frame) := s.nodes.map fun nd => nd.inp.hostFrame

/-! ## Stimulus (R94) -/

/-- `@t enq n, id, dlc, data`. -/
def State.schedule (s : State) (t n : Nat) (f : Frame) : State := { s with sched := s.sched ++ [⟨t, n, f⟩] }

/-- `bit b` on controller n: it finds one bus bit in the step about to begin. -/
def State.putBusBit (s : State) (n : Nat) (b : Bit) : State :=
  { s with nodes := s.nodes.modify n fun nd => { nd with inp := { nd.inp with ctlRxBit := [b] } } }

/-- `echo` on controller n: the bit it wrote in the previous step, recessive if it wrote none. -/
def State.putEcho (s : State) (n : Nat) : State :=
  { s with nodes := s.nodes.modify n fun nd =>
      { nd with inp := { nd.inp with ctlRxBit := [nd.inp.xcvTxBit.headD recessive] } } }

/-! ## A run and its result (R213) -/

/-- A frame that controller `node` emitted on `ctl_frame_out` in system step `step`. -/
structure EmittedFrame where
  step : Nat
  node : Nat
  frame : Frame
deriving DecidableEq, Repr

/-- The frames the nodes from index n on emitted in system step t, found on the host's side at its end (R36). -/
def framesFrom (t n : Nat) : List Node → List EmittedFrame
  | [] => []
  | nd :: nds => nd.inp.hostFrame.map (fun f => ⟨t, n, f⟩) ++ framesFrom t (n + 1) nds

/-- The frames emitted in system step t, of which `s` is the end, by ascending node. -/
def State.framesOf (s : State) (t : Nat) : List EmittedFrame := framesFrom t 0 s.nodes

/-- The result of a run (R213). -/
inductive RunResult where
  /-- A fault ended it: the error report of R194, the number of the faulting step, the frames emitted up to and in that step. -/
  | faulted (report : List (AgentId × FaultReg)) (step : Nat) (frames : List EmittedFrame)
  /-- It ended in quiescence: the frames emitted. -/
  | quiesced (frames : List EmittedFrame)
deriving DecidableEq, Repr

/-- What at most so many system steps of a run gave. -/
structure RunOutcome where
  /-- The run's result; `none` while it has not ended. -/
  result : Option RunResult
  /-- The state at the end of the last system step taken. -/
  last : State
deriving DecidableEq, Repr

/-- `run until quiescent` (R94) from a state without a fault, at most `fuel` system steps, `frames` emitted before: the run ends at the
end of the first step that raises a fault, or in quiescence with nothing scheduled (R213, log 25). -/
def runFrom : Nat → List EmittedFrame → State → Host.Outcome RunOutcome Fault Refusal
  | 0, frames, s => .next ⟨if s.runQuiesced then some (.quiesced frames) else none, s⟩
  | fuel + 1, frames, s =>
    if s.runQuiesced then .next ⟨some (.quiesced frames), s⟩
    else
      match systemStep s with
      | .next s' =>
        if s'.anyFault then .next ⟨some (.faulted (errorReport s') s.t (frames ++ s'.framesOf s.t)), s'⟩
        else runFrom fuel (frames ++ s'.framesOf s.t) s'
      | .fault e => .fault e
      | .refused r => .refused r

/-- A run of at most `fuel` system steps that begins at `s`. -/
def runUntilEnd (fuel : Nat) (s : State) : Host.Outcome RunOutcome Fault Refusal := runFrom fuel [] s

end Sys2Proof.Machine
end

