-- ==== Sys2Proof/Safety.lean ====
section
/-! DEFINITION. What the statements are in terms of: what it means that only one agent changed, the invariant of the machine, and
the premises of fault-free runs. -/
namespace Sys2Proof.Machine

/-! ## Premises -/

/-- What a claim about fault-free runs must assume (70_reset R233, R234). -/
abbrev Config.faultFreePremise (c : Config) : Prop :=
  3 ≤ c.tStart ∧ 1 ≤ c.nBootRecessive ∧ c.nBootRecessive ≤ waitThreshold + 2

/-! ## Whose turn it is -/

/-- Controller n = seq.node is about to take its bus bit: no enqueue is left, the system is not halted, no codec call waits. -/
abbrev CtlTurn (s : State) (nd : Node) : Prop :=
  s.fn.call = none ∧ s.seq.stage = .ctl ∧ s.seq.halted = false ∧ s.node? = some nd ∧ enqFrame s nd = none

/-- Controller n = seq.node is about to take the enqueued frame f; the system is not halted and this controller has not faulted
in this step. -/
abbrev EnqTurn (s : State) (nd : Node) (f : Frame) : Prop :=
  s.fn.call = none ∧ s.seq.stage = .ctl ∧ s.seq.halted = false ∧ s.seq.ended = false ∧ s.node? = some nd ∧
    enqFrame s nd = some f

/-- Transceiver n = seq.node is about to run its write path. -/
abbrev WriteTurn (s : State) (nd : Node) : Prop := s.fn.call = none ∧ s.seq.stage = .xw ∧ s.node? = some nd

/-- Transceiver n = seq.node is about to run its read path. -/
abbrev ReadTurn (s : State) (nd : Node) : Prop := s.fn.call = none ∧ s.seq.stage = .xr ∧ s.node? = some nd

/-! ## Frames of a change -/

/-- All but the nodes, the wires, the watchdog, `seq.ended` and the codec unit is as before: parameters, step number, whose turn it
is, HALT, fan-in draws, host schedule. -/
abbrev SameBackground (s t : State) : Prop :=
  t.cfg = s.cfg ∧ t.t = s.t ∧ t.seq.stage = s.seq.stage ∧ t.seq.node = s.seq.node ∧ t.seq.enqIdx = s.seq.enqIdx ∧
    t.seq.halted = s.seq.halted ∧ t.draws = s.draws ∧ t.sched = s.sched

/-- From s to t the node whose turn it is became `nd'` (every register, input port and emit of it is what `nd'` says), and nothing
else changed but `seq.ended`. -/
abbrev OnlyNode (s t : State) (nd' : Node) : Prop :=
  t.nodes[s.seq.node]? = some nd' ∧ (∀ m, m ≠ s.seq.node → t.nodes[m]? = s.nodes[m]?) ∧ t.wires = s.wires ∧ t.wd = s.wd ∧
    t.fn = s.fn ∧ SameBackground s t

/-- From s to t the wires became `w'` and nothing else changed but `seq.ended`. -/
abbrev OnlyWires (s t : State) (w' : Wires) : Prop :=
  t.wires = w' ∧ t.nodes = s.nodes ∧ t.wd = s.wd ∧ t.fn = s.fn ∧ SameBackground s t

/-- From s to t the watchdog became `w'` and nothing else changed. -/
abbrev OnlyWatchdog (s t : State) (w' : Watchdog) : Prop :=
  t.wd = w' ∧ t.nodes = s.nodes ∧ t.wires = s.wires ∧ t.fn = s.fn ∧ t.seq.ended = s.seq.ended ∧ SameBackground s t

/-- From s to t only the result of the codec call changed, to r. -/
abbrev OnlyResult (s t : State) (r : FnResult) : Prop :=
  t.fn.result = r ∧ t.fn.call = s.fn.call ∧ t.fn.frame = s.fn.frame ∧ t.fn.bits = s.fn.bits ∧ t.fn.k = s.fn.k ∧
    t.nodes = s.nodes ∧ t.wires = s.wires ∧ t.wd = s.wd ∧ t.seq.ended = s.seq.ended ∧ SameBackground s t

/-- Every register of the agents is the same in both states: controllers, transceivers, INJ and the wires' FAULT, the watchdog's. -/
abbrev SameRegisters (s t : State) : Prop :=
  t.nodes.map (fun nd => (nd.ctl, nd.xcvFault)) = s.nodes.map (fun nd => (nd.ctl, nd.xcvFault)) ∧
    t.wires.inj = s.wires.inj ∧ t.wires.fault = s.wires.fault ∧
    t.wd.last = s.wd.last ∧ t.wd.idle = s.wd.idle ∧ t.wd.active = s.wd.active ∧ t.cfg = s.cfg

/-! ## The invariant of a controller -/

/-- A TX entry is what ENQ made of a valid frame, its cursor within the stream (R25). -/
abbrev TxEntry.wf (e : TxEntry) : Prop :=
  frameValid e.frame = true ∧ e.stream = frameToBits e.frame ∧ e.len.toNat = e.stream.length ∧
    e.arbEnd.toNat = Sys2Proof.Machine.arbEnd e.frame ∧ e.off.toNat ≤ e.stream.length

/-- STATE is Arbitration or Transmit. -/
abbrev Controller.sending (c : Controller) : Prop := c.state = CtlState.arbitration ∨ c.state = CtlState.transmit

/-- The head entry while STATE is Arbitration or Transmit (R26): at least the SOF is sent, in Arbitration at most the
arbitration field. -/
abbrev Controller.headWf (c : Controller) : Prop :=
  c.txq ≠ [] ∧ ∀ h ∈ c.txq.take 1, 1 ≤ h.off.toNat ∧ (c.state = CtlState.arbitration → h.off.toNat ≤ h.arbEnd.toNat)

/-- The queue and cursor invariants (R24 to R26, R178), and that a frame waits in WaitForBusIdle. -/
abbrev Controller.queueWf (cfg : Config) (c : Controller) : Prop :=
  (∀ e ∈ c.txq, e.wf) ∧ (∀ e ∈ c.txq.tail, e.off = 0) ∧ (c.sending → c.headWf) ∧ (¬ c.sending → ∀ e ∈ c.txq, e.off = 0) ∧
    (c.state = CtlState.wait → c.txq ≠ []) ∧
    cfg.txqDepth.all (fun d => decide (c.txq.length ≤ d)) = true

/-- STATE is one of the five named states (R22), WCNT in its range and 0 outside WaitForBusIdle (R23). -/
abbrev Controller.stateWf (c : Controller) : Prop :=
  c.state.toNat ≤ 4 ∧ c.wcnt.toNat ≤ waitThreshold ∧ (c.state ≠ CtlState.wait → c.wcnt = 0)

/-- The receive assembler in the middle of a reception (R27): before the header at most 15 bits and no trailer bit, after it the
DLC is that of the data and at most 8, trailer bits only when the region is complete and no stuff bit is due; the run register
is in range and a stuff bit is due exactly after a run of 5. -/
abbrev Assembler.wf (a : Assembler) : Prop :=
  (a.hdr = false → a.data.length < headerBits ∧ a.trl = 0 ∧ a.trlBad = false) ∧
    (a.hdr = true → headerBits ≤ a.data.length ∧ a.data.length ≤ dataRegionLen a.dlc.toNat ∧
      a.dlc.toNat = dlcOf a.data ∧ a.dlc.toNat ≤ maxDlc) ∧
    (a.trl ≠ 0 ∨ a.trlBad = true → a.data.length = dataRegionLen a.dlc.toNat ∧ a.skip = false) ∧
    a.trl.toNat < trailerLen ∧ a.runLen.toNat ≤ stuffK ∧ (a.skip = true ↔ a.runLen.toNat = stuffK)

/-- The assembler of a controller that has not faulted: at reset outside Receive, in good order in Receive (R27). -/
abbrev Controller.rxWf (c : Controller) : Prop :=
  (c.state = CtlState.receive → c.rx.wf) ∧ (c.state ≠ CtlState.receive → c.rx = Assembler.reset)

/-- The invariant of one controller. -/
abbrev Controller.wf (cfg : Config) (c : Controller) : Prop :=
  c.stateWf ∧ c.queueWf cfg ∧ (c.fault.latched = false → c.rxWf)

/-! ## The invariant of the machine -/

/-- A controller that has a fault latched in a step that is not halted has faulted in this step and is out of turn: its turn is
over, or it still has enqueues that it drops (R190, R192). -/
abbrev State.faultedOutOfTurn (s : State) : Prop :=
  s.seq.halted = false → ∀ m nd, s.nodes[m]? = some nd → nd.ctl.fault.latched = true →
    s.seq.stage ≠ .ctl ∨ m < s.seq.node ∨ (m = s.seq.node ∧ s.seq.ended = true ∧ s.seq.enqIdx < nd.inp.ctlEnq.length)

/-- The sequencer points at an agent that exists, and in a halted step at a controller. -/
abbrev State.turnWf (s : State) : Prop :=
  s.nodes.length = s.cfg.nNodes ∧ s.wd.last.length = s.cfg.nNodes ∧ 0 < s.cfg.nNodes ∧
    (s.seq.stage = .ctl ∨ s.seq.stage = .xw ∨ s.seq.stage = .xr → s.seq.node < s.nodes.length) ∧
    (s.seq.halted = true → s.seq.stage = .ctl)

/-- The invariant of the machine. -/
abbrev State.Inv (s : State) : Prop :=
  s.turnWf ∧ s.faultedOutOfTurn ∧ ∀ nd ∈ s.nodes, nd.ctl.wf s.cfg

/-! ## Quiet states -/

/-- No agent has an input, an emit, pending work or a fault, and the host has nothing scheduled (R212). -/
abbrev State.quiet (s : State) : Prop :=
  (∀ nd ∈ s.nodes, nd.inp = NodeIn.empty ∧ nd.out = NodeOut.empty ∧ nd.ctl.fault.latched = false ∧ nd.xcvFault.latched = false) ∧
    s.wires.inj = 0 ∧ s.wires.fault.latched = false ∧
    s.wires.wLow = [] ∧ s.wires.wHigh = [] ∧ s.wires.wReq = [] ∧ s.wires.lows = [] ∧ s.wires.highs = [] ∧
    s.wires.busLow = [] ∧ s.wires.busHigh = [] ∧
    s.wd.active = false ∧ s.wd.wdState = [] ∧ s.wd.wdBusLow = [] ∧ s.wd.wdBusHigh = [] ∧ s.wd.req = [] ∧
    s.sched = [] ∧ s.fn.call = none ∧ s.seq.ended = false ∧ s.seq.halted = false

/-! ## Agents -/

/-- An agent, or the codec unit. -/
inductive Actor where
  | controller (n : Nat)
  | transceiver (n : Nat)
  | wires
  | watchdog
  | codec
deriving DecidableEq, Repr

/-- The actor of an operation, when it is node n's turn: the operation's format says which (30_encoding section 4). -/
def actorOf (n : Nat) (i : Instr) : Actor :=
  match (encode i).format with
  | .ctl | .host => .controller n
  | .xw | .xr => .transceiver n
  | .wi | .wr => .wires
  | .wd => .watchdog
  | .fn => .codec

/-- Operation i carried out by node n's agent, or by an agent that is no node's, in a turn of its own; `k` enqueues are done. -/
def actAs (n k : Nat) (i : Instr) (s : State) : Result :=
  exec i { s with seq := { s.seq with node := n, enqIdx := k, ended := false } }

end Sys2Proof.Machine
end

