-- ==== Sys2Proof/Certificates/Slice0/Obligations.lean ====
section
/-! DEFINITION. The statements for the provers. Each says in its docstring which rule of the spec it formalises. Where a
statement says `exec i s = .next t` with `OnlyNode`, `OnlyWires`, `OnlyWatchdog` or `OnlyResult`, it says what the operation
does, that it completes, and its frame: everything not named is as before. -/

open Sys2Proof Sys2Proof.Machine

/-! ## Encoding -/

/-- 30_encoding section 4: packing an operation's selector word into bytes and decoding gives the operation back, whatever
follows it, with every don't-care bit at every value. The packing is the model's choice (log 13). -/
def Obligations.DecodeOfEncodedBytesIsTheOperation : Prop :=
  ∀ (i : Instr) (rest : List Byte), WellFormed i = true → decodeBytes (encodeBytes i ++ rest) = .ok (i, rest)

/-- 30_encoding R82: the decode is total, and an operation's word is the word it came from (no bit is dropped). -/
def Obligations.EverySelectorWordChoosesAnOperation : Prop :=
  ∀ sel : Selector, ∃ i, decode sel = some i ∧ WellFormed i = true ∧ encode i = sel

/-- 30_encoding R84 to R91: words written out from the patterns decode to the operations of their rows. -/
def Obligations.TableWordsDecodeToTheirRows : Prop :=
  decode (.ctl 0b0001011100#10) = some (.waitGo 0) ∧ decode (.ctl 0b0010010110#10) = some (.arbWon false false) ∧
  decode (.ctl 0b0010010100#10) = some (.arbMatch false false) ∧ decode (.ctl 0b0011011100#10) = some (.txDone true 0) ∧
  decode (.ctl 0b0100011101#10) = some (.rxDone true) ∧ decode (.ctl 0b0101011000#10) = some (.ctlBadState5 1 true 0) ∧
  decode (.host 0b011#3) = some .enqFull ∧ decode (.xw 0b010#3) = some .xcvWr0 ∧ decode (.xr 0b0101#4) = some .xcvRd1 ∧
  decode (.wi 0b1#1) = some .wiresInject ∧ decode (.wr 0b10010#5) = some (.wiresLowhigh false) ∧
  decode (.wd 0b1111#4) = some (.wdgSleep true) ∧ decode (.fn 0b110#3) = some .fnDecodeWire

/-- 30_encoding R82: a step computes the selector, runs the operation its first matching row names, and passes the turn on
(`State.advance`, log 1); an operation that stops stops the step. -/
def Obligations.StepRunsTheSelectedOperation : Prop :=
  ∀ (s : State) (sel : Selector) (i : Instr), fetch s = .ok sel → decode sel = some i →
    (∀ t, exec i s = .next t → step s = .next (t.advance sel.format)) ∧
    (∀ f, exec i s = .fault f → step s = .fault f) ∧
    (∀ r, exec i s = .refused r → step s = .refused r)

/-! ## Reset and the invariant -/

/-- 10_state R39: the registers after reset, for every choice of the parameters. -/
def Obligations.ResetLeavesTheTabledValues : Prop :=
  ∀ c : Config,
    (State.resetWith c).nodes.length = c.nNodes ∧
    (∀ nd ∈ (State.resetWith c).nodes,
      nd.ctl.state = 0#3 ∧ nd.ctl.wcnt = 0#4 ∧ nd.ctl.txq = [] ∧ nd.ctl.rx.data = [] ∧ nd.ctl.rx.runVal = false ∧
      nd.ctl.rx.runLen = 0#3 ∧ nd.ctl.rx.skip = false ∧ nd.ctl.rx.hdr = false ∧ nd.ctl.rx.dlc = 0#4 ∧
      nd.ctl.rx.trl = 0#4 ∧ nd.ctl.rx.trlBad = false ∧ nd.ctl.fault = ⟨0#4, 0#8⟩ ∧ nd.xcvFault = ⟨0#4, 0#8⟩ ∧
      nd.inp = ⟨[], [], [], [], [], []⟩) ∧
    (State.resetWith c).wires.fault = ⟨0#4, 0#8⟩ ∧ (State.resetWith c).wires.inj = c.nBootRecessive ∧
    (State.resetWith c).wires.wLow = [] ∧ (State.resetWith c).wires.wHigh = [] ∧ (State.resetWith c).wires.wReq = [] ∧
    (State.resetWith c).wd.last = List.replicate c.nNodes 0#3 ∧ (State.resetWith c).wd.idle = 0 ∧
    (State.resetWith c).wd.active = true ∧ (State.resetWith c).wd.wdState = [] ∧
    (State.resetWith c).wd.wdBusLow = [] ∧ (State.resetWith c).wd.wdBusHigh = [] ∧ (State.resetWith c).t = 0

/-- The invariant of Safety.lean (10_state R22 to R27, 42_controller R178) holds after reset, for all legal parameters, and with any
host schedule and any fan-in draws. -/
def Obligations.ResetMeetsTheInvariant : Prop :=
  ∀ c : Config, c.legal = true →
    (State.resetWith c).Inv ∧ ∀ sched draws, (State.powerUp c sched draws).Inv

/-- From every state that meets the invariant, whatever stands on the ports, a step gives a state that meets it: the state codes
stay named (R22), WCNT in range (R23), entries stay what ENQ made (R25), only the head's cursor moves (R26, R178), and the
receive assembler stays in order (R27). -/
def Obligations.EveryStepKeepsTheInvariant : Prop :=
  ∀ s t : State, s.Inv → step s = .next t → t.Inv

/-- The model's stops are out of reach: in a state that meets the invariant, whatever stands on the ports, every agent's
operation completes (R82 "the decode is total"; R56, R157, R172: the primitives are only used where they are defined). -/
def Obligations.NoStepStopsUnderTheInvariant : Prop :=
  ∀ s : State, s.Inv → s.fn.call = none → ∃ t, step s = .next t

/-- 20_memory R51: from the beginning of a system step, in a state that meets the invariant, the system step ends within its operation
bound: the step number is one higher, the next system step begins, and the invariant holds. -/
def Obligations.SystemStepReachesTheNextBoundary : Prop :=
  ∀ s : State, s.Inv → s.fn.call = none → s.atBoundary = true →
    ∃ t, systemStep s = .next t ∧ t.atBoundary = true ∧ t.t = s.t + 1 ∧ t.Inv

/-- 20_memory R51 (every agent is activated once), 42_controller R140, 41_physical R120, R128, 60_exceptions R192: the operations of a
system step that begins in a state of the invariant. In one that is not halted every controller takes one operation for each of its
frames and then its CTL operation, which it leaves out only when a frame made it fault; every transceiver its write path and then its
read path, which it leaves out only when the write path faulted; the wires the injection and then the resolution; the watchdog one.
In a halted one every controller takes its operations and no other agent acts. Nothing else is run. -/
def Obligations.EveryAgentHasItsTurnInASystemStep : Prop :=
  ∀ s t : State, s.Inv → s.fn.call = none → s.atBoundary = true → systemStep s = .next t →
    (s.seq.halted = false →
      (∀ (n : Nat) (nd : Node), s.nodes[n]? = some nd → ∃ nd' : Node, t.nodes[n]? = some nd' ∧
        (operationsOf (systemOperations s) n [.host, .ctl] = List.replicate nd.inp.ctlEnq.length (n, .host) ++ [(n, .ctl)] ∨
          nd.inp.ctlEnq ≠ [] ∧ nd'.ctl.fault.code ≠ 0 ∧
            operationsOf (systemOperations s) n [.host, .ctl] = List.replicate nd.inp.ctlEnq.length (n, .host)) ∧
        (operationsOf (systemOperations s) n [.xw, .xr] = [(n, .xw), (n, .xr)] ∨
          nd'.xcvFault.code ≠ 0 ∧ operationsOf (systemOperations s) n [.xw, .xr] = [(n, .xw)])) ∧
      operationsOf (systemOperations s) 0 [.wi, .wr] = [(0, .wi), (0, .wr)] ∧
      operationsOf (systemOperations s) 0 [.wd] = [(0, .wd)]) ∧
    (s.seq.halted = true →
      (∀ (n : Nat) (nd : Node), s.nodes[n]? = some nd →
        operationsOf (systemOperations s) n [.host, .ctl] = List.replicate nd.inp.ctlEnq.length (n, .host) ++ [(n, .ctl)]) ∧
      ∀ x ∈ systemOperations s, x.2 = .host ∨ x.2 = .ctl) ∧
    (∀ x ∈ systemOperations s, x.1 < s.nodes.length ∧ x.2 ≠ .fn ∧ (x.2 = .wi ∨ x.2 = .wr ∨ x.2 = .wd → x.1 = 0))

/-! ## Faults and halt -/

/-- 60_exceptions R190, R191: the record `raise` leaves, the codes, and that a latched record is kept. -/
def Obligations.RaiseLatchesTheFirstFault : Prop :=
  (∀ (r : FaultReg) (k : FaultKind) (info : Nat), r.code = 0 →
    (r.raise k info).code = k.code ∧ (r.raise k info).info.toNat = min info 255) ∧
  (∀ (r : FaultReg) (k : FaultKind) (info : Nat), r.code ≠ 0 → r.raise k info = r) ∧
  (∀ k k' : FaultKind, k.code = k'.code → k = k') ∧ (∀ k : FaultKind, k.code ≠ 0 ∧ k.code ≠ 15) ∧
  FaultKind.malformedPayload.code = 1 ∧ FaultKind.validationNoSamples.code = 2 ∧
  FaultKind.validationCountMismatch.code = 3 ∧ FaultKind.validationLowAboveHigh.code = 4 ∧
  FaultKind.validationOutOfRange.code = 5 ∧ FaultKind.busFault.code = 6 ∧ FaultKind.decodeInsufficientBits.code = 7 ∧
  FaultKind.decodeInvalidFrame.code = 8 ∧ FaultKind.decodeBadTrailer.code = 9 ∧ FaultKind.unknownVoltagePair.code = 10 ∧
  FaultKind.multipleInputs.code = 11 ∧ FaultKind.invalidFrameEnqueue.code = 12 ∧ FaultKind.queueOverflow.code = 13 ∧
  FaultKind.illegalState.code = 14

/-- 10_state R28, 60_exceptions R194, R195: no step changes a latched fault record of any agent. -/
def Obligations.NoStepChangesALatchedFault : Prop :=
  ∀ s t : State, step s = .next t →
    (∀ (m : Nat) (nd : Node), s.nodes[m]? = some nd → ∃ nd' : Node, t.nodes[m]? = some nd' ∧
      (nd.ctl.fault.code ≠ 0 → nd'.ctl.fault = nd.ctl.fault) ∧ (nd.xcvFault.code ≠ 0 → nd'.xcvFault = nd.xcvFault)) ∧
    (s.wires.fault.code ≠ 0 → t.wires.fault = s.wires.fault)

/-- 60_exceptions R192, 42_controller R142: in a halted step only controllers are called on, each takes CTL.HALTED or ENQ.HALTED, and
no register and no emit changes; whether the next system step is halted is decided at its start by the FAULT registers. CTL.HALTED and
ENQ.HALTED write nothing and emit nothing; a controller that raised a fault earlier in the step takes ENQ.HALTED for its remaining
frames (30_encoding R85). -/
def Obligations.HaltedStepFreezesTheRegisters : Prop :=
  (∀ s : State, s.fn.call = none → s.seq.halted = true → s.seq.stage = .ctl → s.seq.node < s.nodes.length →
    ((∃ st n b c, selected s = some (.ctlHalted st n b c)) ∨ (∃ vf, selected s = some (.enqHalted vf))) ∧
    ∃ t, step s = .next t ∧ SameRegisters s t ∧ t.seq.stage = .ctl ∧
      (t.t = s.t → t.nodes = s.nodes ∧ t.wires = s.wires ∧ t.wd = s.wd)) ∧
  (∀ s t : State, step s = .next t → t.t ≠ s.t → t.seq.halted = t.anyFault) ∧
  (∀ (s : State) st n b c, exec (.ctlHalted st n b c) s = .next s) ∧ (∀ (s : State) vf, exec (.enqHalted vf) s = .next s) ∧
  (∀ x : BitVec 9, ∃ st n b c, decode (.ctl (0b1#1 ++ x)) = some (.ctlHalted st n b c)) ∧
  (∀ x : BitVec 2, decode (.host (0b1#1 ++ x)) = some (.enqHalted x)) ∧
  (∀ (s : State) (nd : Node) (f : Frame), s.fn.call = none → s.seq.stage = .ctl → s.node? = some nd →
    enqFrame s nd = some f → (s.seq.halted = true ∨ s.seq.ended = true) → ∃ vf, selected s = some (.enqHalted vf))

/-- 42_controller R143: CTL.BADSTATE, all three rows; codes 5, 6 and 7 are found with any input, class 111 only by its word. -/
def Obligations.ReservedStateRaisesIllegalState : Prop :=
  (∀ (s : State) (nd : Node) (i : Instr), s.node? = some nd →
    ((∃ n b c, i = .ctlBadState5 n b c) ∨ (∃ l n b c, i = .ctlBadState67 l n b c) ∨ (∃ b, i = .ctlBadStateRxc b)) →
    ∃ t, exec i s = .next t ∧ t.seq.ended = true ∧
      OnlyNode s t { nd with
        ctl := { nd.ctl with fault := nd.ctl.fault.raise .illegalState nd.ctl.state.toNat }
        out := { nd.out with txBit := [], frameOut := [], report := [] } }) ∧
  (∀ (s : State) (nd : Node), CtlTurn s nd → nd.ctl.state = 5#3 → ∃ n b c, selected s = some (.ctlBadState5 n b c)) ∧
  (∀ (s : State) (nd : Node), CtlTurn s nd → nd.ctl.state = 6#3 ∨ nd.ctl.state = 7#3 →
    ∃ l n b c, selected s = some (.ctlBadState67 l n b c)) ∧
  (∀ b : Bit, decode (.ctl (0b010001#6 ++ bit1 b ++ 0b111#3)) = some (.ctlBadStateRxc b))

/-! ## The controller's common rows -/

/-- 42_controller R144 and R145: two or more bus bits in one step raise MultipleInputs; no bus bit means no transition and no bit
written, in each of the five states. -/
def Obligations.NoBusBitAndSeveralBusBits : Prop :=
  (∀ (s : State) (nd : Node) st n b c, s.node? = some nd →
    ∃ t, exec (.ctlMulti st n b c) s = .next t ∧ t.seq.ended = true ∧
      OnlyNode s t { nd with
        ctl := { nd.ctl with fault := nd.ctl.fault.raise .multipleInputs nd.inp.ctlRxBit.length }
        out := { nd.out with txBit := [], frameOut := [], report := [] } }) ∧
  (∀ (s : State) (nd : Node), CtlTurn s nd → nd.ctl.state.toNat ≤ 4 → 2 ≤ nd.inp.ctlRxBit.length →
    ∃ st n b c, selected s = some (.ctlMulti st n b c)) ∧
  (∀ (s : State) st b c, exec (.ctlNobit st b c) s = .next s) ∧
  (∀ (s : State) (nd : Node), CtlTurn s nd → nd.ctl.state.toNat ≤ 4 → nd.inp.ctlRxBit = [] →
    ∃ st b c, selected s = some (.ctlNobit st b c))

/-- 42_controller R141: after its CTL operation a controller that took an input, raised no fault and is not halted reports its
STATE as it now is; one that took none, faulted or is halted reports nothing. -/
def Obligations.StateReportFollowsAConsumedInput : Prop :=
  ∀ (s t : State) (nd : Node) (w : BitVec 10) (i : Instr), fetch s = .ok (.ctl w) → decode (.ctl w) = some i →
    exec i s = .next t → t.node? = some nd →
    step s = .next (reportState t).nextAgent ∧
    (t.seq.halted = false → t.seq.ended = false → (nd.inp.ctlEnq ≠ [] ∨ nd.inp.ctlRxBit ≠ []) →
      t.seq.ended = (reportState t).seq.ended ∧
      OnlyNode t (reportState t) { nd with out := { nd.out with report := nd.out.report ++ [⟨t.seq.node, nd.ctl.state⟩] } }) ∧
    (t.seq.halted = true ∨ t.seq.ended = true ∨ (nd.inp.ctlEnq = [] ∧ nd.inp.ctlRxBit = []) → reportState t = t)

/-! ## Idle and WaitForBusIdle -/

/-- 42_controller R146 with R165: a dominant bit in Idle starts a reception, whether or not TXQ is empty. -/
def Obligations.IdleDominantBitStartsReception : Prop :=
  (∀ (s : State) (nd : Node) c, s.node? = some nd →
    ∃ t, exec (.idleSof c) s = .next t ∧ t.seq.ended = s.seq.ended ∧
      OnlyNode s t { nd with ctl := { nd.ctl with
        state := CtlState.receive, rx := ⟨[dominant], dominant, 1, false, false, 0, 0, false⟩ } }) ∧
  (∀ (s : State) (nd : Node), CtlTurn s nd → nd.ctl.state = CtlState.idle → nd.inp.ctlRxBit = [dominant] →
    ∃ c, selected s = some (.idleSof c)) ∧
  (∀ c : BitVec 3, decode (.ctl (0b0000010#7 ++ c)) = some (.idleSof c))

/-- 42_controller R147 and R148: a recessive bit in Idle starts the wait when a frame is queued; with nothing queued it changes no
register, and the state report is still emitted. -/
def Obligations.IdleRecessiveBitWaitsOrStays : Prop :=
  (∀ (s : State) (nd : Node) c, s.node? = some nd →
    ∃ t, exec (.idleStart c) s = .next t ∧ t.seq.ended = s.seq.ended ∧
      OnlyNode s t { nd with ctl := { nd.ctl with state := CtlState.wait, wcnt := 0 } }) ∧
  (∀ (s : State) (nd : Node), CtlTurn s nd → nd.ctl.state = CtlState.idle → nd.inp.ctlRxBit = [recessive] →
    nd.ctl.txq ≠ [] → ∃ c, selected s = some (.idleStart c)) ∧
  (∀ c : BitVec 2, decode (.ctl (0b00000111#8 ++ c)) = some (.idleStart c)) ∧
  (∀ (s : State) c, exec (.idleStay c) s = .next s) ∧
  (∀ (s : State) (nd : Node), CtlTurn s nd → nd.ctl.state = CtlState.idle → nd.inp.ctlRxBit = [recessive] →
    nd.ctl.txq = [] → (∃ c, selected s = some (.idleStay c)) ∧
    (s.seq.ended = false → ∃ t, step s = .next t ∧
      t.nodes[s.seq.node]? = some { nd with out := { nd.out with report := nd.out.report ++ [⟨s.seq.node, 0#3⟩] } })) ∧
  (∀ c : BitVec 2, decode (.ctl (0b00000110#8 ++ c)) = some (.idleStay c))

/-- 42_controller R149: another node's SOF in WaitForBusIdle; the queue stays as it is. -/
def Obligations.WaitDominantBitStartsReception : Prop :=
  (∀ (s : State) (nd : Node) c, s.node? = some nd →
    ∃ t, exec (.waitSof c) s = .next t ∧ t.seq.ended = s.seq.ended ∧
      OnlyNode s t { nd with ctl := { nd.ctl with
        state := CtlState.receive, wcnt := 0, rx := ⟨[dominant], dominant, 1, false, false, 0, 0, false⟩ } }) ∧
  (∀ (s : State) (nd : Node), CtlTurn s nd → nd.ctl.state = CtlState.wait → nd.inp.ctlRxBit = [dominant] →
    ∃ c, selected s = some (.waitSof c)) ∧
  (∀ c : BitVec 3, decode (.ctl (0b0001010#7 ++ c)) = some (.waitSof c))

/-- 42_controller R150: up to ten recessive bits are counted; a step without a bus bit leaves WCNT as it is. -/
def Obligations.WaitCountsRecessiveBits : Prop :=
  (∀ (s : State) (nd : Node) c, s.node? = some nd →
    ∃ t, exec (.waitCount c) s = .next t ∧ t.seq.ended = s.seq.ended ∧
      OnlyNode s t { nd with ctl := { nd.ctl with wcnt := nd.ctl.wcnt + 1 } }) ∧
  (∀ (s : State) (nd : Node), CtlTurn s nd → nd.ctl.state = CtlState.wait → nd.inp.ctlRxBit = [recessive] →
    nd.ctl.wcnt.toNat + 1 ≤ 10 → ∃ c, selected s = some (.waitCount c)) ∧
  (∀ (s : State) st b c, exec (.ctlNobit st b c) s = .next s) ∧
  (∀ c : BitVec 2, decode (.ctl (0b00010110#8 ++ c)) = some (.waitCount c))

/-- 42_controller R151 with R157: the 11th recessive bit; the bit at the head's cursor, the SOF of a fresh entry, is written. -/
def Obligations.EleventhRecessiveBitStartsArbitration : Prop :=
  (∀ (s : State) (nd : Node) (h : TxEntry) (q : List TxEntry) (b : Bit) c, s.node? = some nd → nd.ctl.txq = h :: q →
    h.stream[h.off.toNat]? = some b →
    ∃ t, exec (.waitGo c) s = .next t ∧ t.seq.ended = s.seq.ended ∧
      OnlyNode s t { nd with
        ctl := { nd.ctl with state := CtlState.arbitration, wcnt := 0, txq := { h with off := h.off + 1 } :: q }
        out := { nd.out with txBit := nd.out.txBit ++ [b] } }) ∧
  (∀ h : TxEntry, h.wf → h.off = 0 → h.stream[h.off.toNat]? = some dominant) ∧
  (∀ (s : State) (nd : Node), CtlTurn s nd → nd.ctl.state = CtlState.wait → nd.inp.ctlRxBit = [recessive] →
    10 < nd.ctl.wcnt.toNat + 1 → ∃ c, selected s = some (.waitGo c)) ∧
  (∀ c : BitVec 2, decode (.ctl (0b00010111#8 ++ c)) = some (.waitGo c))

/-! ## Arbitration and Transmit -/

/-- 42_controller R153 with R152, R157: the echo equals LAST_SENT = stream[off - 1] inside the arbitration field. -/
def Obligations.ArbitrationMatchWritesTheNextBit : Prop :=
  (∀ (s : State) (nd : Node) (h : TxEntry) (q : List TxEntry) (b x c : Bit), s.node? = some nd → nd.ctl.txq = h :: q →
    h.stream[h.off.toNat]? = some x →
    ∃ t, exec (.arbMatch b c) s = .next t ∧ t.seq.ended = s.seq.ended ∧
      OnlyNode s t { nd with
        ctl := { nd.ctl with txq := { h with off := h.off + 1 } :: q }
        out := { nd.out with txBit := nd.out.txBit ++ [x] } }) ∧
  (∀ (s : State) (nd : Node) (h : TxEntry) (q : List TxEntry) (b : Bit), CtlTurn s nd →
    nd.ctl.state = CtlState.arbitration → nd.ctl.txq = h :: q → nd.inp.ctlRxBit = [b] → 1 ≤ h.off.toNat →
    h.stream[h.off.toNat - 1]? = some b → h.off.toNat ≠ h.arbEnd.toNat → ∃ c, selected s = some (.arbMatch b c)) ∧
  (∀ b c : Bit, decode (.ctl (0b001001#6 ++ bit1 b ++ 0b10#2 ++ bit1 c)) = some (.arbMatch b c))

/-- 42_controller R154: the echo of the last bit of the arbitration field; go on in Transmit with the next bit, and there always is
one. -/
def Obligations.ArbitrationWonEntersTransmit : Prop :=
  (∀ (s : State) (nd : Node) (h : TxEntry) (q : List TxEntry) (b x c : Bit), s.node? = some nd → nd.ctl.txq = h :: q →
    h.stream[h.off.toNat]? = some x →
    ∃ t, exec (.arbWon b c) s = .next t ∧ t.seq.ended = s.seq.ended ∧
      OnlyNode s t { nd with
        ctl := { nd.ctl with state := CtlState.transmit, txq := { h with off := h.off + 1 } :: q }
        out := { nd.out with txBit := nd.out.txBit ++ [x] } }) ∧
  (∀ (s : State) (nd : Node) (h : TxEntry) (q : List TxEntry) (b : Bit), CtlTurn s nd →
    nd.ctl.state = CtlState.arbitration → nd.ctl.txq = h :: q → nd.inp.ctlRxBit = [b] → 1 ≤ h.off.toNat →
    h.stream[h.off.toNat - 1]? = some b → h.off.toNat = h.arbEnd.toNat → ∃ c, selected s = some (.arbWon b c)) ∧
  (∀ h : TxEntry, h.wf → h.off.toNat = h.arbEnd.toNat → h.off.toNat < h.len.toNat) ∧
  (∀ b c : Bit, decode (.ctl (0b001001#6 ++ bit1 b ++ 0b11#2 ++ bit1 c)) = some (.arbWon b c))

/-- 42_controller R155: a dominant bit over the own recessive one; the frame stays at the head with off = 0 and the assembler
starts from the bits seen on the bus. -/
def Obligations.ArbitrationLostBecomesReceiver : Prop :=
  (∀ (s : State) (nd : Node) (h : TxEntry) (q : List TxEntry) c, s.node? = some nd → nd.ctl.txq = h :: q →
    1 ≤ h.off.toNat →
    ∃ t, exec (.arbLost c) s = .next t ∧ t.seq.ended = s.seq.ended ∧
      OnlyNode s t { nd with ctl := { nd.ctl with
        state := CtlState.receive
        txq := { h with off := 0 } :: q
        rx := Assembler.preload (h.stream.take (h.off.toNat - 1) ++ [dominant]) } }) ∧
  (∀ (s : State) (nd : Node) (h : TxEntry) (q : List TxEntry), CtlTurn s nd →
    nd.ctl.state = CtlState.arbitration → nd.ctl.txq = h :: q → nd.inp.ctlRxBit = [dominant] → 1 ≤ h.off.toNat →
    h.stream[h.off.toNat - 1]? = some recessive → ∃ c, selected s = some (.arbLost c)) ∧
  (∀ c : BitVec 2, decode (.ctl (0b00100100#8 ++ c)) = some (.arbLost c))

/-- 42_controller R156: a recessive bit over the own dominant one; only FAULT is written. -/
def Obligations.RecessiveEchoOfDominantBitIsBusFault : Prop :=
  (∀ (s : State) (nd : Node) (h : TxEntry) (q : List TxEntry) c, s.node? = some nd → nd.ctl.txq = h :: q →
    1 ≤ h.off.toNat →
    ∃ t, exec (.arbBusfault c) s = .next t ∧ t.seq.ended = true ∧
      OnlyNode s t { nd with
        ctl := { nd.ctl with fault := nd.ctl.fault.raise .busFault (h.off.toNat - 1) }
        out := { nd.out with txBit := [], frameOut := [], report := [] } }) ∧
  (∀ (s : State) (nd : Node) (h : TxEntry) (q : List TxEntry), CtlTurn s nd →
    nd.ctl.state = CtlState.arbitration → nd.ctl.txq = h :: q → nd.inp.ctlRxBit = [recessive] → 1 ≤ h.off.toNat →
    h.stream[h.off.toNat - 1]? = some dominant → ∃ c, selected s = some (.arbBusfault c)) ∧
  (∀ c : BitVec 2, decode (.ctl (0b00100110#8 ++ c)) = some (.arbBusfault c))

/-- 42_controller R158 with R157: bits remain; the echo, whatever it is, is not compared. -/
def Obligations.TransmitWritesTheNextBit : Prop :=
  (∀ (s : State) (nd : Node) (h : TxEntry) (q : List TxEntry) (b x : Bit) c, s.node? = some nd → nd.ctl.txq = h :: q →
    h.stream[h.off.toNat]? = some x →
    ∃ t, exec (.txNext b c) s = .next t ∧ t.seq.ended = s.seq.ended ∧
      OnlyNode s t { nd with
        ctl := { nd.ctl with txq := { h with off := h.off + 1 } :: q }
        out := { nd.out with txBit := nd.out.txBit ++ [x] } }) ∧
  (∀ (s : State) (nd : Node) (h : TxEntry) (q : List TxEntry) (b : Bit), CtlTurn s nd →
    nd.ctl.state = CtlState.transmit → nd.ctl.txq = h :: q → nd.inp.ctlRxBit = [b] → h.off ≠ h.len →
    ∃ c, selected s = some (.txNext b c)) ∧
  (∀ (b : Bit) (c : BitVec 2), decode (.ctl (0b001101#6 ++ bit1 b ++ 0b0#1 ++ c)) = some (.txNext b c))

/-- 42_controller R159: the echo of the last trailer bit pops the head; nothing is written, nothing goes to the host. -/
def Obligations.TransmitDonePopsTheHead : Prop :=
  (∀ (s : State) (nd : Node) (h : TxEntry) (q : List TxEntry) b c, s.node? = some nd → nd.ctl.txq = h :: q →
    ∃ t, exec (.txDone b c) s = .next t ∧ t.seq.ended = s.seq.ended ∧
      OnlyNode s t { nd with ctl := { nd.ctl with state := CtlState.idle, txq := q } }) ∧
  (∀ (s : State) (nd : Node) (h : TxEntry) (q : List TxEntry) (b : Bit), CtlTurn s nd →
    nd.ctl.state = CtlState.transmit → nd.ctl.txq = h :: q → nd.inp.ctlRxBit = [b] → h.off = h.len →
    ∃ c, selected s = some (.txDone b c)) ∧
  (∀ (b : Bit) (c : BitVec 2), decode (.ctl (0b001101#6 ++ bit1 b ++ 0b1#1 ++ c)) = some (.txDone b c))

/-- The model's stops of the sending rows and of ENQ, RX.DONE and WIRES.RESOLVE (log 12): where the queue, the stream, the frame or
a sample is not there; and ENQ on a frame that is not valid, whose stream and arbitration length are free values (log 8). No rule
of the spec leads to these states; the choices are the model's. -/
def Obligations.OperationsOutsideTheirDomain : Prop :=
  (∀ (s : State) (nd : Node) (i : Instr), s.node? = some nd → nd.ctl.txq = [] →
    ((∃ c, i = .waitGo c) ∨ (∃ b c, i = .arbMatch b c) ∨ (∃ b c, i = .arbWon b c) ∨ (∃ c, i = .arbLost c) ∨
      (∃ c, i = .arbBusfault c) ∨ (∃ b c, i = .txNext b c) ∨ (∃ b c, i = .txDone b c)) →
    exec i s = .fault .noQueueHead) ∧
  (∀ (s : State) (nd : Node) (h : TxEntry) (q : List TxEntry) (i : Instr), s.node? = some nd → nd.ctl.txq = h :: q →
    h.stream[h.off.toNat]? = none →
    ((∃ c, i = .waitGo c) ∨ (∃ b c, i = .arbMatch b c) ∨ (∃ b c, i = .arbWon b c) ∨ (∃ b c, i = .txNext b c)) →
    exec i s = .fault .streamEnd) ∧
  (∀ (s : State) (nd : Node) (h : TxEntry) (q : List TxEntry) (i : Instr), s.node? = some nd → nd.ctl.txq = h :: q →
    h.off = 0 → ((∃ c, i = .arbLost c) ∨ (∃ c, i = .arbBusfault c)) → exec i s = .fault .noLastSent) ∧
  (∀ (s : State) (nd : Node), s.node? = some nd → enqFrame s nd = none → exec .enq s = .fault .noFrame) ∧
  (∀ (s : State) (nd : Node) (f : Frame), s.node? = some nd → enqFrame s nd = some f →
    ∃ t st len ae, exec .enq s = .next t ∧ t.seq.ended = s.seq.ended ∧
      OnlyNode s t { nd with ctl := { nd.ctl with txq := nd.ctl.txq ++ [⟨f, st, len, ae, 0⟩] } }) ∧
  (∀ (s : State) (nd : Node) e b, s.node? = some nd → bitsToFrame nd.ctl.rx.data = .error e →
    exec (.rxDone b) s = .fault .assemblerNotDone) ∧
  (∀ s : State, s.wires.lows = [] ∨ s.wires.highs = [] → exec .wiresResolve s = .fault .noSample)

/-- 42_controller R178 and R179: an entry leaves TXQ only by TX.DONE, which removes the head of its own node's queue, and no other
operation removes, reorders or replaces a queued frame; an operation writes at most one `ctl_tx_bit`, and only WAIT.GO, ARB.MATCH,
ARB.WON and TX.NEXT write one. -/
def Obligations.QueueAndWrittenBitChangeOnlyByTheirRows : Prop :=
  ∀ (i : Instr) (s t : State), exec i s = .next t →
    ∀ (m : Nat) (nd : Node), s.nodes[m]? = some nd → ∃ nd' : Node, t.nodes[m]? = some nd' ∧
      (nd.ctl.txq.map TxEntry.frame <+: nd'.ctl.txq.map TxEntry.frame ∨
        (m = s.seq.node ∧ (∃ b c, i = .txDone b c) ∧ nd'.ctl.txq = nd.ctl.txq.tail)) ∧
      (nd'.out.txBit = nd.out.txBit ∨ nd'.out.txBit = [] ∨
        (m = s.seq.node ∧ (∃ x, nd'.out.txBit = nd.out.txBit ++ [x]) ∧
          ((∃ c, i = .waitGo c) ∨ (∃ b c, i = .arbMatch b c) ∨ (∃ b c, i = .arbWon b c) ∨ (∃ b c, i = .txNext b c))))

/-! ## Receive -/

/-- 30_encoding R87, 42_controller R167 to R173: which Receive row the assembler and the bit select; class 111 never occurs. -/
def Obligations.ReceiveClassSelectsTheReceiveRow : Prop :=
  (∀ (s : State) (nd : Node) (b : Bit), CtlTurn s nd → nd.ctl.state = CtlState.receive → nd.inp.ctlRxBit = [b] →
    let a := nd.ctl.rx
    (a.skip = true → selected s = some (.rxSkip b)) ∧
    (a.skip = false → (a.hdr = false ∨ a.data.length < 16 + 8 * a.dlc.toNat) →
      (a.data.length + 1 ≠ 16 → selected s = some (.rxData b)) ∧
      (a.data.length + 1 = 16 → uval ((a.data.drop 12).take 3 ++ [b]) ≤ 8 → selected s = some (.rxHdr b)) ∧
      (a.data.length + 1 = 16 → 8 < uval ((a.data.drop 12).take 3 ++ [b]) → selected s = some (.rxHdrbad b))) ∧
    (a.skip = false → a.hdr = true → 16 + 8 * a.dlc.toNat ≤ a.data.length →
      (a.trl.toNat + 1 < 10 → selected s = some (.rxTrail b)) ∧
      (10 ≤ a.trl.toNat + 1 → a.trlBad = false → b = recessive → selected s = some (.rxDone b)) ∧
      (10 ≤ a.trl.toNat + 1 → (a.trlBad = true ∨ b = dominant) → selected s = some (.rxBadeof b)))) ∧
  (∀ (a : Assembler) (b : Bit), (a.rxClass b).code ≠ 0b111#3)

/-- 42_controller R167, R169 with R164: the effect of a data bit and of the bit that completes the header; `r` is the run length after
the bit. R168, R171: a stuff bit is discarded unchecked and starts a new run; a trailer bit is counted and a dominant one remembered. -/
def Obligations.ReceivedBitsUpdateTheAssembler : Prop :=
  (∀ (s : State) (nd : Node) (b : Bit) (r : BitVec 3), s.node? = some nd →
    r = (if 0 < nd.ctl.rx.runLen.toNat ∧ b = nd.ctl.rx.runVal then nd.ctl.rx.runLen + 1 else 1) →
    (∃ t, exec (.rxData b) s = .next t ∧ t.seq.ended = s.seq.ended ∧
      OnlyNode s t { nd with ctl := { nd.ctl with rx := { nd.ctl.rx with
        data := nd.ctl.rx.data ++ [b], runVal := b, runLen := r, skip := nd.ctl.rx.skip || decide (5 ≤ r.toNat) } } }) ∧
    (∃ t, exec (.rxHdr b) s = .next t ∧ t.seq.ended = s.seq.ended ∧
      OnlyNode s t { nd with ctl := { nd.ctl with rx := { nd.ctl.rx with
        data := nd.ctl.rx.data ++ [b], runVal := b, runLen := r, skip := nd.ctl.rx.skip || decide (5 ≤ r.toNat)
        hdr := true, dlc := BitVec.ofNat 4 (uval (((nd.ctl.rx.data ++ [b]).drop 12).take 4)) } } })) ∧
  (∀ b : Bit, decode (.ctl (0b010001#6 ++ bit1 b ++ 0b000#3)) = some (.rxData b) ∧
    decode (.ctl (0b010001#6 ++ bit1 b ++ 0b010#3)) = some (.rxHdr b)) ∧
  (∀ (s : State) (nd : Node) (b : Bit), s.node? = some nd →
    (∃ t, exec (.rxSkip b) s = .next t ∧ t.seq.ended = s.seq.ended ∧
      OnlyNode s t { nd with ctl := { nd.ctl with rx := { nd.ctl.rx with skip := false, runVal := b, runLen := 1 } } }) ∧
    (∃ t, exec (.rxTrail b) s = .next t ∧ t.seq.ended = s.seq.ended ∧
      OnlyNode s t { nd with ctl := { nd.ctl with rx := { nd.ctl.rx with
        trl := nd.ctl.rx.trl + 1, trlBad := nd.ctl.rx.trlBad || (b == dominant) } } })) ∧
  (∀ b : Bit, decode (.ctl (0b010001#6 ++ bit1 b ++ 0b001#3)) = some (.rxSkip b) ∧
    decode (.ctl (0b010001#6 ++ bit1 b ++ 0b100#3)) = some (.rxTrail b))

/-- 42_controller R170, R173 (60_exceptions R209): a DLC of 9 to 15 and a bad trailer raise their decode faults; the bits are kept and
STATE is not changed. -/
def Obligations.ReceiveDecodeFaultsKeepTheBuffer : Prop :=
  (∀ (s : State) (nd : Node) (b : Bit) (r : BitVec 3), s.node? = some nd →
    r = (if 0 < nd.ctl.rx.runLen.toNat ∧ b = nd.ctl.rx.runVal then nd.ctl.rx.runLen + 1 else 1) →
    ∃ t, exec (.rxHdrbad b) s = .next t ∧ t.seq.ended = true ∧
      OnlyNode s t { nd with
        ctl := { nd.ctl with
          rx := { nd.ctl.rx with
            data := nd.ctl.rx.data ++ [b], runVal := b, runLen := r, skip := nd.ctl.rx.skip || decide (5 ≤ r.toNat) }
          fault := nd.ctl.fault.raise .decodeInvalidFrame (uval (((nd.ctl.rx.data ++ [b]).drop 12).take 4)) }
        out := { nd.out with txBit := [], frameOut := [], report := [] } }) ∧
  (∀ (s : State) (nd : Node) (b : Bit), s.node? = some nd →
    ∃ t, exec (.rxBadeof b) s = .next t ∧ t.seq.ended = true ∧
      OnlyNode s t { nd with
        ctl := { nd.ctl with
          rx := { nd.ctl.rx with trl := nd.ctl.rx.trl + 1, trlBad := true }
          fault := nd.ctl.fault.raise .decodeBadTrailer 0 }
        out := { nd.out with txBit := [], frameOut := [], report := [] } }) ∧
  (∀ b : Bit, decode (.ctl (0b010001#6 ++ bit1 b ++ 0b011#3)) = some (.rxHdrbad b) ∧
    decode (.ctl (0b010001#6 ++ bit1 b ++ 0b110#3)) = some (.rxBadeof b))

/-- 42_controller R172: the frame is decoded and emitted to the host, the node is Idle with the assembler reset; on an assembler in
order the decoding cannot fail, and it gives a valid frame. -/
def Obligations.CompleteReceptionEmitsTheFrame : Prop :=
  (∀ (s : State) (nd : Node) (f : Frame) (b : Bit), s.node? = some nd → bitsToFrame nd.ctl.rx.data = .ok f →
    ∃ t, exec (.rxDone b) s = .next t ∧ t.seq.ended = s.seq.ended ∧
      OnlyNode s t { nd with
        ctl := { nd.ctl with state := CtlState.idle, rx := ⟨[], false, 0, false, false, 0, 0, false⟩ }
        out := { nd.out with frameOut := nd.out.frameOut ++ [f] } }) ∧
  (∀ (a : Assembler) (b : Bit), a.wf → a.rxClass b = .done → ∃ f, bitsToFrame a.data = .ok f ∧ frameValid f = true) ∧
  (∀ b : Bit, decode (.ctl (0b010001#6 ++ bit1 b ++ 0b101#3)) = some (.rxDone b))

/-- 42_controller R166, R175: a preload of at most 14 raw bits meets only data and stuff bits, holds the destuffed bits, and is the
assembler of a node that has listened since the SOF. -/
def Obligations.PreloadEqualsListeningSinceTheSof : Prop :=
  (∀ seen : List Bit, seen.length ≤ 14 →
    (Assembler.preload seen).data = destuff seen stuffK ∧ (Assembler.preload seen).hdr = false ∧
    (Assembler.preload seen).trl = 0 ∧ (Assembler.preload seen).trlBad = false ∧
    ∀ n b, seen[n]? = some b →
      (Assembler.preload (seen.take n)).rxClass b = .data ∨ (Assembler.preload (seen.take n)).rxClass b = .skip) ∧
  (∀ rest : List Bit, Assembler.preload (dominant :: rest) = rest.foldl Assembler.feed (Assembler.start dominant))

/-! ## Host operations -/

/-- 42_controller R160: a valid frame is encoded and pushed at the tail; nothing else of the controller changes, in any state; the
next frame delivered in the same step comes next. -/
def Obligations.EnqueuePushesTheEncodedFrame : Prop :=
  (∀ (s : State) (nd : Node) (f : Frame), s.node? = some nd → enqFrame s nd = some f → frameValid f = true →
    ∃ t, exec .enq s = .next t ∧ t.seq.ended = s.seq.ended ∧
      OnlyNode s t { nd with ctl := { nd.ctl with txq := nd.ctl.txq ++
        [⟨f, frameToBits f, BitVec.ofNat 7 (frameToBits f).length, BitVec.ofNat 4 (arbEnd f), 0⟩] } }) ∧
  (∀ (s : State) (nd : Node) (f : Frame), EnqTurn s nd f → frameValid f = true →
    (∀ d, s.cfg.txqDepth = some d → nd.ctl.txq.length ≠ d) → selected s = some .enq ∧
    ∃ t, step s = .next t ∧ t.node?.map Node.inp = some nd.inp ∧ t.seq.stage = .ctl ∧
      t.seq.enqIdx = s.seq.enqIdx + 1 ∧ enqFrame t nd = nd.inp.ctlEnq[s.seq.enqIdx + 1]?) ∧
  decode (.host 0b010#3) = some .enq

/-- 42_controller R161, R162: an invalid frame, even into a full queue, and a valid frame into a full queue raise their faults; an
unbounded queue never overflows. -/
def Obligations.BadAndOverflowingEnqueuesFault : Prop :=
  (∀ (s : State) (nd : Node) v, s.node? = some nd →
    ∃ t, exec (.enqBad v) s = .next t ∧ t.seq.ended = true ∧
      OnlyNode s t { nd with
        ctl := { nd.ctl with fault := nd.ctl.fault.raise .invalidFrameEnqueue 0 }
        out := { nd.out with txBit := [], frameOut := [], report := [] } }) ∧
  (∀ (s : State) (nd : Node) (d : Nat), s.node? = some nd → s.cfg.txqDepth = some d →
    ∃ t, exec .enqFull s = .next t ∧ t.seq.ended = true ∧
      OnlyNode s t { nd with
        ctl := { nd.ctl with fault := nd.ctl.fault.raise .queueOverflow d }
        out := { nd.out with txBit := [], frameOut := [], report := [] } }) ∧
  (∀ (s : State) (nd : Node) (f : Frame), EnqTurn s nd f → frameValid f = false → ∃ v, selected s = some (.enqBad v)) ∧
  (∀ (s : State) (nd : Node) (f : Frame) (d : Nat), EnqTurn s nd f → frameValid f = true → s.cfg.txqDepth = some d →
    nd.ctl.txq.length = d → selected s = some .enqFull) ∧
  (∀ (s : State) (nd : Node) (f : Frame), EnqTurn s nd f → s.cfg.txqDepth = none → selected s ≠ some .enqFull) ∧
  (∀ v : Bit, decode (.host (0b00#2 ++ bit1 v)) = some (.enqBad v)) ∧ decode (.host 0b011#3) = some .enqFull

/-! ## Transceiver -/

/-- 41_physical R121, R122 and the WRNONE part of R123: the write path. -/
def Obligations.TransceiverDrivesThePairOfTheBit : Prop :=
  (∀ (s : State) (nd : Node), s.node? = some nd →
    (∃ t, exec .xcvWr0 s = .next t ∧ t.seq.ended = s.seq.ended ∧
      OnlyNode s t { nd with out := { nd.out with
        canLow := nd.out.canLow ++ [s.cfg.vDomLow], canHigh := nd.out.canHigh ++ [s.cfg.vDomHigh] } }) ∧
    (∃ t, exec .xcvWr1 s = .next t ∧ t.seq.ended = s.seq.ended ∧
      OnlyNode s t { nd with out := { nd.out with
        canLow := nd.out.canLow ++ [s.cfg.vRec], canHigh := nd.out.canHigh ++ [s.cfg.vRec] } })) ∧
  (∀ (s : State) b, exec (.xcvWrnone b) s = .next s) ∧
  (∀ (s : State) (nd : Node), WriteTurn s nd →
    (nd.inp.xcvTxBit = [dominant] → selected s = some .xcvWr0) ∧
    (nd.inp.xcvTxBit = [recessive] → selected s = some .xcvWr1) ∧
    (nd.inp.xcvTxBit = [] → ∃ b, selected s = some (.xcvWrnone b))) ∧
  decode (.xw 0b010#3) = some .xcvWr0 ∧ decode (.xw 0b011#3) = some .xcvWr1

/-- 41_physical R124, R125 and the RDNONE part of R127: the read path inverts the pairs of R81. -/
def Obligations.TransceiverReadsTheBitOfThePair : Prop :=
  (∀ (s : State) (nd : Node), s.node? = some nd →
    (∃ t, exec .xcvRd0 s = .next t ∧ t.seq.ended = s.seq.ended ∧
      OnlyNode s t { nd with out := { nd.out with rxBit := nd.out.rxBit ++ [dominant] } }) ∧
    (∃ t, exec .xcvRd1 s = .next t ∧ t.seq.ended = s.seq.ended ∧
      OnlyNode s t { nd with out := { nd.out with rxBit := nd.out.rxBit ++ [recessive] } })) ∧
  (∀ (s : State) k, exec (.xcvRdnone k) s = .next s) ∧
  (∀ (s : State) (nd : Node), ReadTurn s nd → s.cfg.legal = true →
    (nd.inp.xcvBusLow = [s.cfg.vDomLow] → nd.inp.xcvBusHigh = [s.cfg.vDomHigh] → selected s = some .xcvRd0) ∧
    (nd.inp.xcvBusLow = [s.cfg.vRec] → nd.inp.xcvBusHigh = [s.cfg.vRec] → selected s = some .xcvRd1) ∧
    (nd.inp.xcvBusLow = [] → nd.inp.xcvBusHigh = [] → ∃ k, selected s = some (.xcvRdnone k))) ∧
  decode (.xr 0b0100#4) = some .xcvRd0 ∧ decode (.xr 0b0101#4) = some .xcvRd1

/-- 41_physical R123, R126, R127, R120: ill-formed transceiver inputs fault, and the transceiver's emits of the step are discarded; a
fault on the write path ends the turn before the read path. -/
def Obligations.IllFormedTransceiverInputFaults : Prop :=
  (∀ (s : State) (nd : Node) (i : Instr) (k : FaultKind) (info : Nat), s.node? = some nd →
    (((∃ n b, i = .xcvWrmulti n b) ∧ k = .multipleInputs ∧ info = nd.inp.xcvTxBit.length) ∨
      ((∃ n c, i = .xcvRdmulti n c) ∧ k = .multipleInputs ∧ info = nd.inp.xcvBusLow.length) ∨
      ((∃ c, i = .xcvRdbad c) ∧ k = .unknownVoltagePair ∧ info = 0)) →
    ∃ t, exec i s = .next t ∧ t.seq.ended = true ∧
      OnlyNode s t { nd with
        xcvFault := nd.xcvFault.raise k info, out := { nd.out with canLow := [], canHigh := [], rxBit := [] } }) ∧
  (∀ (s : State) (nd : Node), WriteTurn s nd → 2 ≤ nd.inp.xcvTxBit.length →
    (∃ n b, selected s = some (.xcvWrmulti n b)) ∧
    ∃ t, step s = .next t ∧ (t.seq.stage = .xw ∧ t.seq.node = s.seq.node + 1 ∨ t.seq.stage = .wi)) ∧
  (∀ (s : State) (nd : Node), ReadTurn s nd →
    (¬ (nd.inp.xcvBusLow = [] ∧ nd.inp.xcvBusHigh = []) →
      ¬ (nd.inp.xcvBusLow.length = 1 ∧ nd.inp.xcvBusHigh.length = 1) → ∃ n c, selected s = some (.xcvRdmulti n c)) ∧
    (∀ lo hi, nd.inp.xcvBusLow = [lo] → nd.inp.xcvBusHigh = [hi] → ¬ (lo = s.cfg.vDomLow ∧ hi = s.cfg.vDomHigh) →
      ¬ (lo = s.cfg.vRec ∧ hi = s.cfg.vRec) → ∃ c, selected s = some (.xcvRdbad c)))

/-! ## Wires -/

/-- 41_physical R129, R128: the injection decision; one sample when any is due, the rest stays pending. -/
def Obligations.InjectionAddsOneRecessiveSample : Prop :=
  (∀ s : State, 0 < s.wires.inj + s.wires.wReq.length →
    ∃ t, exec .wiresInject s = .next t ∧ t.seq.ended = s.seq.ended ∧
      OnlyWires s t { s.wires with
        lows := s.wires.wLow ++ [s.cfg.vRec], highs := s.wires.wHigh ++ [s.cfg.vRec]
        inj := s.wires.inj + s.wires.wReq.length - 1 }) ∧
  (∀ s : State, s.wires.inj + s.wires.wReq.length = 0 →
    ∃ t, exec .wiresNoinj s = .next t ∧ t.seq.ended = s.seq.ended ∧
      OnlyWires s t { s.wires with lows := s.wires.wLow, highs := s.wires.wHigh }) ∧
  (∀ s : State, s.fn.call = none → s.seq.stage = .wi →
    (0 < s.wires.inj + s.wires.wReq.length → selected s = some .wiresInject) ∧
    (s.wires.inj + s.wires.wReq.length = 0 → selected s = some .wiresNoinj)) ∧
  decode (.wi 0b1#1) = some .wiresInject ∧ decode (.wi 0b0#1) = some .wiresNoinj

/-- 41_physical R130 to R132: an idle bus, one line without samples, different counts. -/
def Obligations.IdleAndUnevenLinesAreTold : Prop :=
  (∀ (s : State) x, exec (.wiresIdle x) s = .next s) ∧
  (∀ (s : State) (i : Instr) (k : FaultKind),
    (((∃ x, i = .wiresNosamples x) ∧ k = .validationNoSamples) ∨
      ((∃ x, i = .wiresMismatch x) ∧ k = .validationCountMismatch)) →
    ∃ t, exec i s = .next t ∧ t.seq.ended = true ∧
      OnlyWires s t { s.wires with fault := s.wires.fault.raise k 0, busLow := [], busHigh := [] }) ∧
  (∀ s : State, s.fn.call = none → s.seq.stage = .wr →
    (s.wires.lows = [] → s.wires.highs = [] → ∃ x, selected s = some (.wiresIdle x)) ∧
    (s.wires.lows = [] ∧ s.wires.highs ≠ [] ∨ s.wires.lows ≠ [] ∧ s.wires.highs = [] →
      ∃ x, selected s = some (.wiresNosamples x)) ∧
    (s.wires.lows ≠ [] → s.wires.highs ≠ [] → s.wires.lows.length ≠ s.wires.highs.length →
      ∃ x, selected s = some (.wiresMismatch x))) ∧
  (∀ x : BitVec 4, decode (.wr (0b0#1 ++ x)) = some (.wiresIdle x)) ∧
  (∀ x : BitVec 3, decode (.wr (0b11#2 ++ x)) = some (.wiresNosamples x)) ∧
  (∀ x : BitVec 2, decode (.wr (0b101#3 ++ x)) = some (.wiresMismatch x))

/-- 41_physical R133, R134, R138: a low above its paired high faults with the least index; a sample out of the inclusive range
faults when no pair is the wrong way round. -/
def Obligations.WrongPairsAndSamplesOutOfRangeFault : Prop :=
  (∀ (s : State) (i : Nat) (lo hi : Voltage) r, s.wires.lows[i]? = some lo → s.wires.highs[i]? = some hi → hi < lo →
    (∀ j lo' hi', j < i → s.wires.lows[j]? = some lo' → s.wires.highs[j]? = some hi' → lo' ≤ hi') →
    (∃ t, exec (.wiresLowhigh r) s = .next t ∧ t.seq.ended = true ∧
      OnlyWires s t { s.wires with fault := s.wires.fault.raise .validationLowAboveHigh i, busLow := [], busHigh := [] }) ∧
    (s.fn.call = none → s.seq.stage = .wr → s.wires.lows.length = s.wires.highs.length →
      ∃ r', selected s = some (.wiresLowhigh r'))) ∧
  (∀ (s : State) (v : Voltage), v ∈ s.wires.lows ++ s.wires.highs → (v < s.cfg.vMin ∨ s.cfg.vMax < v) →
    (∃ t, exec .wiresRange s = .next t ∧ t.seq.ended = true ∧
      OnlyWires s t { s.wires with fault := s.wires.fault.raise .validationOutOfRange 0, busLow := [], busHigh := [] }) ∧
    (s.fn.call = none → s.seq.stage = .wr → s.wires.lows.length = s.wires.highs.length →
      (∀ (i : Nat) lo hi, s.wires.lows[i]? = some lo → s.wires.highs[i]? = some hi → lo ≤ hi) →
      selected s = some .wiresRange)) ∧
  (∀ x : Bit, decode (.wr (0b1001#4 ++ bit1 x)) = some (.wiresLowhigh x)) ∧ decode (.wr 0b10001#5) = some .wiresRange

/-- 41_physical R135: the resolved pair is the least low and the greatest high, one pair whatever the number of samples. -/
def Obligations.ResolutionIsLeastLowAndGreatestHigh : Prop :=
  (∀ s : State, s.wires.lows ≠ [] → s.wires.highs ≠ [] →
    ∃ t lo hi, exec .wiresResolve s = .next t ∧ t.seq.ended = s.seq.ended ∧
      lo ∈ s.wires.lows ∧ (∀ v ∈ s.wires.lows, lo ≤ v) ∧ hi ∈ s.wires.highs ∧ (∀ v ∈ s.wires.highs, v ≤ hi) ∧
      OnlyWires s t { s.wires with busLow := s.wires.busLow ++ [lo], busHigh := s.wires.busHigh ++ [hi] }) ∧
  (∀ s : State, s.fn.call = none → s.seq.stage = .wr → s.wires.lows ≠ [] → s.wires.lows.length = s.wires.highs.length →
    (∀ (i : Nat) lo hi, s.wires.lows[i]? = some lo → s.wires.highs[i]? = some hi → lo ≤ hi) →
    (∀ v ∈ s.wires.lows ++ s.wires.highs, s.cfg.vMin ≤ v ∧ v ≤ s.cfg.vMax) → selected s = some .wiresResolve)

/-- 41_physical R136, R137, R138: when every sample is a driven bit's (`bits`) or an injected one, in ANY fan-in order on each line,
the wires never fault; with at least one sample they resolve the dominant pair if some bit is dominant and the recessive pair
otherwise, and that pair reads back as the AND of the bits. -/
def Obligations.BusIsTheAndOfTheDrivenBits : Prop :=
  ∀ (s : State) (bits : List Bit), s.cfg.legal = true → s.fn.call = none → s.seq.stage = .wi → s.seq.ended = false →
    s.wires.busLow = [] → s.wires.busHigh = [] →
    s.wires.wLow.Perm (bits.map fun b => if b then s.cfg.vRec else s.cfg.vDomLow) →
    s.wires.wHigh.Perm (bits.map fun b => if b then s.cfg.vRec else s.cfg.vDomHigh) →
    ∃ t u, step s = .next t ∧ step t = .next u ∧ u.wires.fault = s.wires.fault ∧
      (bits = [] → s.wires.inj + s.wires.wReq.length = 0 → u.wires.busLow = [] ∧ u.wires.busHigh = []) ∧
      (bits ≠ [] ∨ 0 < s.wires.inj + s.wires.wReq.length →
        (bits.all id = false → u.wires.busLow = [s.cfg.vDomLow] ∧ u.wires.busHigh = [s.cfg.vDomHigh]) ∧
        (bits.all id = true → u.wires.busLow = [s.cfg.vRec] ∧ u.wires.busHigh = [s.cfg.vRec]) ∧
        ∀ (v : State) (nd : Node), ReadTurn v nd → v.cfg = s.cfg → nd.inp.xcvBusLow = u.wires.busLow →
          nd.inp.xcvBusHigh = u.wires.busHigh →
          selected v = some (if bits.all id then .xcvRd1 else .xcvRd0))

/-! ## Watchdog -/

/-- 60_exceptions R198 to R200: a watchdog that is inactive and has no input does nothing; otherwise it merges the reports by node (a node
without a report keeps its last value) and counts the steps without a bus pair. -/
def Obligations.WatchdogObservesReportsAndSilence : Prop :=
  (∀ (s : State) x, exec (.wdgDormant x) s = .next s) ∧
  (∀ s : State, s.fn.call = none → s.seq.stage = .wd →
    (s.wd.active = false → s.wd.wdState = [] → s.wd.wdBusLow = [] → s.wd.wdBusHigh = [] →
      ∃ x, selected s = some (.wdgDormant x)) ∧
    (s.wd.active = true ∨ s.wd.wdState ≠ [] ∨ s.wd.wdBusLow ≠ [] ∨ s.wd.wdBusHigh ≠ [] →
      ∀ x, selected s ≠ some (.wdgDormant x))) ∧
  (∀ (w : Watchdog) (n : Nat), (∀ r ∈ w.wdState, r.node ≠ n) → w.merged[n]? = w.last[n]?) ∧
  (∀ (w : Watchdog) (r : StateReport), r ∈ w.wdState → r.node < w.last.length →
    (∀ r' ∈ w.wdState, r'.node = r.node → r' = r) → w.merged[r.node]? = some r.state) ∧
  (∀ w : Watchdog, w.merged.length = w.last.length) ∧
  (∀ w : Watchdog, (w.wdBusLow ≠ [] → w.idle' = 0) ∧ (w.wdBusLow = [] → w.idle' = w.idle + 1))

/-- 60_exceptions R201: while some node is not Idle, more than T_START silent steps make the watchdog request one recessive bit. -/
def Obligations.WatchdogRequestsAfterTheStartThreshold : Prop :=
  (∀ (s : State) b, ∃ t, exec (.wdgRequest b) s = .next t ∧
    OnlyWatchdog s t { s.wd with last := s.wd.merged, idle := 0, active := true, req := s.wd.req ++ [.token] }) ∧
  (∀ s : State, s.fn.call = none → s.seq.stage = .wd →
    (s.wd.active = true ∨ s.wd.wdState ≠ [] ∨ s.wd.wdBusLow ≠ [] ∨ s.wd.wdBusHigh ≠ []) →
    (∃ x ∈ s.wd.merged, x ≠ CtlState.idle) → s.cfg.tStart < s.wd.idle' → ∃ b, selected s = some (.wdgRequest b)) ∧
  (∀ b : Bit, decode (.wd (0b101#3 ++ bit1 b)) = some (.wdgRequest b))

/-- 60_exceptions R202 to R204: otherwise it keeps counting, and goes to sleep when every node is Idle past T_STOP. -/
def Obligations.WatchdogKeepsCountingOrSleeps : Prop :=
  (∀ (s : State) b, ∃ t, exec (.wdgContBusy b) s = .next t ∧
    OnlyWatchdog s t { s.wd with last := s.wd.merged, idle := s.wd.idle', active := true }) ∧
  (∀ (s : State) b, ∃ t, exec (.wdgSleep b) s = .next t ∧
    OnlyWatchdog s t { s.wd with last := s.wd.merged, idle := s.wd.idle', active := false }) ∧
  (∀ (s : State) b, ∃ t, exec (.wdgContIdle b) s = .next t ∧
    OnlyWatchdog s t { s.wd with last := s.wd.merged, idle := s.wd.idle', active := true }) ∧
  (∀ s : State, s.fn.call = none → s.seq.stage = .wd →
    (s.wd.active = true ∨ s.wd.wdState ≠ [] ∨ s.wd.wdBusLow ≠ [] ∨ s.wd.wdBusHigh ≠ []) →
    ((∃ x ∈ s.wd.merged, x ≠ CtlState.idle) → s.wd.idle' ≤ s.cfg.tStart → ∃ b, selected s = some (.wdgContBusy b)) ∧
    ((∀ x ∈ s.wd.merged, x = CtlState.idle) → s.cfg.tStop < s.wd.idle' → ∃ b, selected s = some (.wdgSleep b)) ∧
    ((∀ x ∈ s.wd.merged, x = CtlState.idle) → s.wd.idle' ≤ s.cfg.tStop → ∃ b, selected s = some (.wdgContIdle b))) ∧
  (∀ b : Bit, decode (.wd (0b100#3 ++ bit1 b)) = some (.wdgContBusy b) ∧
    decode (.wd (0b11#2 ++ bit1 b ++ 0b1#1)) = some (.wdgSleep b) ∧
    decode (.wd (0b11#2 ++ bit1 b ++ 0b0#1)) = some (.wdgContIdle b))

/-! ## The codec as operations -/

/-- 30_encoding R91, 40_codec R100 to R107: each codec call returns its function's value on the operands and changes nothing else; on a
frame that is not valid frameToBits and arbEnd still return, a free value (log 8). 30_encoding R92 and 40_codec R112: function id 111
and run length 0 are refused. -/
def Obligations.CodecCallsReturnTheirFunction : Prop :=
  (∀ s : State, s.fn.k ≠ 0 →
    (∃ t, exec .fnStuff s = .next t ∧ OnlyResult s t (.bits (stuff s.fn.bits s.fn.k))) ∧
    (∃ t, exec .fnDestuff s = .next t ∧ OnlyResult s t (.bits (destuff s.fn.bits s.fn.k)))) ∧
  (∀ s : State, frameValid s.fn.frame = true →
    (∃ t, exec .fnFrameToBits s = .next t ∧ OnlyResult s t (.bits (frameToBits s.fn.frame))) ∧
    (∃ t, exec .fnArbEnd s = .next t ∧ OnlyResult s t (.count (arbEnd s.fn.frame)))) ∧
  (∀ s : State,
    (∃ t l, exec .fnFrameToBits s = .next t ∧ OnlyResult s t (.bits l)) ∧
    (∃ t n, exec .fnArbEnd s = .next t ∧ OnlyResult s t (.count n)) ∧
    (∃ t, exec .fnFrameValid s = .next t ∧ OnlyResult s t (.truth (frameValid s.fn.frame))) ∧
    (∃ t, exec .fnBitsToFrame s = .next t ∧
      OnlyResult s t (match bitsToFrame s.fn.bits with | .ok f => .frame f | .error e => .error e)) ∧
    (∃ t, exec .fnDecodeWire s = .next t ∧
      OnlyResult s t (match decodeWire s.fn.bits with | .ok p => .wire p.1 p.2 | .error e => .error e))) ∧
  (∀ (s : State) (id : BitVec 3), s.fn.call = some id → selected s = decode (.fn id)) ∧
  (∀ s : State, exec .fnReserved s = .refused .reservedFunction) ∧
  (∀ s : State, s.fn.k = 0 →
    exec .fnStuff s = .refused .runLengthZero ∧ exec .fnDestuff s = .refused .runLengthZero) ∧
  decode (.fn 0b111#3) = some .fnReserved

/-! ## The codec as functions -/

/-- 40_codec R109: for all bit sequences and all run lengths of at least 1, destuffing undoes stuffing. -/
def Obligations.DestuffUndoesStuff : Prop :=
  ∀ (bits : List Bit) (k : Nat), 1 ≤ k → destuff (stuff bits k) k = bits

/-- 40_codec R110: the receive assembler decodes every valid frame's raw stream to that frame, consuming all of it; and the data
region survives stuffing and destuffing. -/
def Obligations.DecodeWireUndoesFrameToBits : Prop :=
  ∀ f : Frame, frameValid f = true →
    decodeWire (frameToBits f) = .ok (f, (frameToBits f).length) ∧
    bitsToFrame (destuff (stuff (dataRegion f) stuffK) stuffK) = .ok f

/-- 30_encoding R71, R72, R76: the layout of the data region, field by field, most significant bit first. -/
def Obligations.DataRegionHoldsTheFieldsInOrder : Prop :=
  ∀ f : Frame, frameValid f = true →
    (dataRegion f).length = 16 + 8 * f.dlc ∧ (dataRegion f)[0]? = some dominant ∧
    (∀ j, j < 11 → (dataRegion f)[1 + j]? = some (f.id.testBit (10 - j))) ∧
    (∀ j, j < 4 → (dataRegion f)[12 + j]? = some (f.dlc.testBit (3 - j))) ∧
    (∀ (i : Nat) (x : Nat) (j : Nat), f.data[i]? = some x → j < 8 →
      (dataRegion f)[16 + 8 * i + j]? = some (x.testBit (7 - j)))

/-- 40_codec R111, and its limit: for run lengths of at least 2 no run in a stuffed sequence is longer than k; for k = 1, which the
rule's words take in, a stuff bit and the data bit after it can make a run of 2 (log 23). -/
def Obligations.StuffedRunsAreBounded : Prop :=
  (∀ (bits : List Bit) (k n : Nat) (v : Bit), 2 ≤ k → List.replicate n v <:+: stuff bits k → n ≤ k) ∧
  List.replicate 2 recessive <:+: stuff [dominant, recessive] 1

/-- 40_codec R108, 30_encoding R74: the length of a raw stream and the bounds of the stuff count. -/
def Obligations.RawStreamLengthIsBounded : Prop :=
  ∀ f : Frame, frameValid f = true →
    (frameToBits f).length = 16 + 8 * f.dlc + stuffCount f + 10 ∧
    stuffCount f + (16 + 8 * f.dlc) = (stuff (dataRegion f) 5).length ∧
    stuffCount f ≤ 18 ∧ (f.dlc < 8 → stuffCount f ≤ 2 * f.dlc + 3)

/-- 40_codec R105: arbEnd is one plus the raw index of destuffed bit 11, the identifier's last bit, and lies between 12 and 14. -/
def Obligations.ArbEndIsTheIdentifiersEnd : Prop :=
  ∀ f : Frame, frameValid f = true →
    12 ≤ arbEnd f ∧ arbEnd f ≤ 14 ∧
    (destuff ((frameToBits f).take (arbEnd f)) 5).length = 12 ∧
    (destuff ((frameToBits f).take (arbEnd f - 1)) 5).length = 11 ∧
    (frameToBits f)[arbEnd f - 1]? = some (f.id.testBit 0) ∧
    (f.id = 0x000 → arbEnd f = 14) ∧ (f.id = 0x100 → arbEnd f = 13) ∧ (f.id = 0x123 ∨ f.id = 0x555 → arbEnd f = 12)

/-- 42_controller R152, R174: of two valid frames with different identifiers, the streams agree up to a raw bit that is an identifier
bit of both (never a stuff bit), lies in both arbitration fields, and is dominant in the frame with the lower identifier. -/
def Obligations.LowerIdentifierIsDominantAtTheFirstDifference : Prop :=
  ∀ f g : Frame, frameValid f = true → frameValid g = true → f.id < g.id →
    ∃ r j, r < arbEnd f ∧ r < arbEnd g ∧ (frameToBits f).take r = (frameToBits g).take r ∧
      (frameToBits f)[r]? = some dominant ∧ (frameToBits g)[r]? = some recessive ∧ 1 ≤ j ∧ j ≤ 11 ∧
      destuff ((frameToBits f).take (r + 1)) 5 = (dataRegion f).take (j + 1) ∧
      destuff ((frameToBits g).take (r + 1)) 5 = (dataRegion g).take (j + 1)

/-! ## The system step -/

/-- 20_memory R52, R53 with 10_state R32 to R36: at the end of a system step every emit is on its port for the next step and only
there; fan-in ports hold all values of the step; the host's frames for the next step are on `ctl_enq`; the step number goes up by one.
The order on the three fan-in ports is free (R53, 41_physical R138): whatever order each of the three lists takes, some next draw makes
this end of the step deliver just these orders, and the draw is used up. That the order comes from `State.draws`, that it is ascending
when no draw is left, and the codes of `arrange` (each gives a permutation, each permutation has one) are the model's choice (log 5).
That the end of the watchdog's turn, in a halted step of the last controller's, is this end is the model's choice too (log 1). -/
def Obligations.EmitsAreDeliveredOneStepLater : Prop :=
  (∀ s : State,
    s.commit.t = s.t + 1 ∧ s.commit.nodes.length = s.nodes.length ∧
    (∀ (n : Nat) (nd : Node), s.nodes[n]? = some nd → s.commit.nodes[n]? = some (⟨nd.ctl, nd.xcvFault,
      ⟨nd.out.rxBit, (s.sched.filter fun d => d.time == s.t + 1 && d.node == n).map Delivery.frame, nd.out.txBit,
        s.wires.busLow, s.wires.busHigh, nd.out.frameOut⟩, ⟨[], [], [], [], [], []⟩⟩ : Node)) ∧
    s.commit.wires.wLow.Perm (s.nodes.flatMap fun nd => nd.out.canLow) ∧
    s.commit.wires.wHigh.Perm (s.nodes.flatMap fun nd => nd.out.canHigh) ∧
    s.commit.wires.wReq = s.wd.req ∧ s.commit.wires.inj = s.wires.inj ∧ s.commit.wires.fault = s.wires.fault ∧
    s.commit.wires.busLow = [] ∧ s.commit.wires.busHigh = [] ∧
    s.commit.wd.wdState.Perm (s.nodes.flatMap fun nd => nd.out.report) ∧
    s.commit.wd.wdBusLow = s.wires.busLow ∧ s.commit.wd.wdBusHigh = s.wires.busHigh ∧ s.commit.wd.req = [] ∧
    s.commit.wd.last = s.wd.last ∧ s.commit.wd.idle = s.wd.idle ∧ s.commit.wd.active = s.wd.active ∧
    s.commit.cfg = s.cfg ∧ s.commit.fn = s.fn ∧ (s.seq.stage = .wd → s.nextAgent = s.commit) ∧
    (s.seq.stage = .ctl → s.nodes.length ≤ s.seq.node + 1 → s.seq.halted = true → s.nextAgent = s.commit)) ∧
  (∀ (s : State) (lows highs : List Voltage) (reports : List StateReport),
    lows.Perm (s.nodes.flatMap fun nd => nd.out.canLow) → highs.Perm (s.nodes.flatMap fun nd => nd.out.canHigh) →
    reports.Perm (s.nodes.flatMap fun nd => nd.out.report) →
    ∃ d : FanDraw, let t := ({ s with draws := d :: s.draws } : State).commit
      t.wires.wLow = lows ∧ t.wires.wHigh = highs ∧ t.wd.wdState = reports ∧ t.draws = s.draws) ∧
  (∀ s : State, s.draws = [] → s.commit.wires.wLow = (s.nodes.flatMap fun nd => nd.out.canLow) ∧
    s.commit.wires.wHigh = (s.nodes.flatMap fun nd => nd.out.canHigh) ∧
    s.commit.wd.wdState = s.nodes.flatMap fun nd => nd.out.report) ∧
  (∀ l l' : List StateReport, l'.Perm l ↔ ∃ code, arrange l code = l')

/-- 20_memory R54: two operations of different agents, carried out in either order in one system step, leave the same agents,
ports and emits, whatever the operations are. -/
def Obligations.OrderOfAgentsHasNoEffect : Prop :=
  ∀ (s s1 s12 : State) (i j : Instr) (m n k l : Nat), actorOf m i ≠ actorOf n j →
    actAs m k i s = .next s1 → actAs n l j s1 = .next s12 →
    ∃ s2 s21, actAs n l j s = .next s2 ∧ actAs m k i s2 = .next s21 ∧
      s21.nodes = s12.nodes ∧ s21.wires = s12.wires ∧ s21.wd = s12.wd ∧ s21.fn = s12.fn

/-- 60_exceptions R194: the error report holds the latched record of every faulting agent and nothing else, controllers first, then
transceivers, then the wires, each kind by ascending node. -/
def Obligations.ErrorReportListsEveryFaultingAgent : Prop :=
  ∀ s : State,
    (∀ a r, (a, r) ∈ errorReport s ↔ r.code ≠ 0 ∧
      ((∃ n nd, a = .controller n ∧ s.nodes[n]? = some nd ∧ r = nd.ctl.fault) ∨
        (∃ n nd, a = .transceiver n ∧ s.nodes[n]? = some nd ∧ r = nd.xcvFault) ∨ (a = .wires ∧ r = s.wires.fault))) ∧
    ∃ c x w : List Nat, (errorReport s).map Prod.fst =
      c.map AgentId.controller ++ x.map AgentId.transceiver ++ w.map (fun _ => AgentId.wires) ∧
      c.Pairwise (· < ·) ∧ x.Pairwise (· < ·) ∧ w.length ≤ 1

/-- 60_exceptions R213 (log 25): a run that starts without a fault and ends has ended in one of two ways.
By a fault: no earlier step raised one or quiesced the run, the last one raised one, and the result is that state's error report (not
empty), the number of that step, and the frames emitted up to and in it.
In quiescence, for the first time and with nothing scheduled: the result is the frames emitted.
A frame of the result is one that stands on the host's port of its node at the end of its step, every such frame is in the result,
and they stand by ascending step.
When none of its system steps stops the model, the run gives an outcome, and its result is missing only where none of them ended it. -/
def Obligations.RunEndsAtTheFirstFaultOrInQuiescence : Prop :=
  ∀ (fuel : Nat) (s t : State), s.anyFault = false →
    (∀ report k frames, runUntilEnd fuel s = .next ⟨some (.faulted report k frames), t⟩ →
      ∃ m u, systemSteps m s = .next u ∧ u.t = k ∧ systemStep u = .next t ∧ t.anyFault = true ∧
        report = errorReport t ∧ report ≠ [] ∧
        (∀ j v, j ≤ m → systemSteps j s = .next v → v.anyFault = false ∧ v.runQuiesced = false) ∧
        (∀ e : EmittedFrame, e ∈ frames ↔ ∃ j v w nd, j ≤ m ∧ systemSteps j s = .next v ∧ systemStep v = .next w ∧
          e.step = v.t ∧ w.nodes[e.node]? = some nd ∧ e.frame ∈ nd.inp.hostFrame) ∧
        frames.Pairwise (fun e e' => e.step ≤ e'.step)) ∧
    (∀ frames, runUntilEnd fuel s = .next ⟨some (.quiesced frames), t⟩ →
      ∃ m, systemSteps m s = .next t ∧ t.quiescent = true ∧ t.sched = [] ∧
        (∀ j v, j ≤ m → systemSteps j s = .next v → v.anyFault = false ∧ (j < m → v.runQuiesced = false)) ∧
        (∀ e : EmittedFrame, e ∈ frames ↔ ∃ j v w nd, j < m ∧ systemSteps j s = .next v ∧ systemStep v = .next w ∧
          e.step = v.t ∧ w.nodes[e.node]? = some nd ∧ e.frame ∈ nd.inp.hostFrame) ∧
        frames.Pairwise (fun e e' => e.step ≤ e'.step)) ∧
    (∀ u, systemSteps fuel s = .next u → ∃ o : RunOutcome, runUntilEnd fuel s = .next o ∧
      (o.result = none → o.last = u ∧ ∀ j v, j ≤ fuel → systemSteps j s = .next v → v.runEnded = false))

/-- 60_exceptions R212: in a quiet state (no input, no emit, INJ = 0, WD_ACTIVE = 0, no fault, nothing scheduled by the host) every
step leaves every register as it is, and the state quiet. -/
def Obligations.QuietSystemStaysQuiet : Prop :=
  ∀ s : State, s.quiet → (∀ nd ∈ s.nodes, nd.ctl.state.toNat ≤ 4) →
    (s.seq.stage = .ctl ∨ s.seq.stage = .xw ∨ s.seq.stage = .xr → s.seq.node < s.nodes.length) →
    ∃ t, step s = .next t ∧ t.quiet ∧ SameRegisters s t
end

