-- ==== Sys2Proof/Laws/State.lean ====
section
/-! SUPPORT. One lemma per field per update of the state's records, each true by unfolding once, so that no later proof unfolds a
record update. -/
namespace Sys2Proof.Machine

/-! ## State.putNode -/

@[simp] theorem State.putNode_cfg (s : State) (nd : Node) : (s.putNode nd).cfg = s.cfg := rfl
@[simp] theorem State.putNode_t (s : State) (nd : Node) : (s.putNode nd).t = s.t := rfl
@[simp] theorem State.putNode_nodes (s : State) (nd : Node) : (s.putNode nd).nodes = s.nodes.set s.seq.node nd := rfl
@[simp] theorem State.putNode_wires (s : State) (nd : Node) : (s.putNode nd).wires = s.wires := rfl
@[simp] theorem State.putNode_wd (s : State) (nd : Node) : (s.putNode nd).wd = s.wd := rfl
@[simp] theorem State.putNode_seq (s : State) (nd : Node) : (s.putNode nd).seq = s.seq := rfl
@[simp] theorem State.putNode_draws (s : State) (nd : Node) : (s.putNode nd).draws = s.draws := rfl
@[simp] theorem State.putNode_sched (s : State) (nd : Node) : (s.putNode nd).sched = s.sched := rfl
@[simp] theorem State.putNode_fn (s : State) (nd : Node) : (s.putNode nd).fn = s.fn := rfl

/-! ## State.endTurn -/

@[simp] theorem State.endTurn_cfg (s : State) : (s.endTurn).cfg = s.cfg := rfl
@[simp] theorem State.endTurn_t (s : State) : (s.endTurn).t = s.t := rfl
@[simp] theorem State.endTurn_nodes (s : State) : (s.endTurn).nodes = s.nodes := rfl
@[simp] theorem State.endTurn_wires (s : State) : (s.endTurn).wires = s.wires := rfl
@[simp] theorem State.endTurn_wd (s : State) : (s.endTurn).wd = s.wd := rfl
@[simp] theorem State.endTurn_draws (s : State) : (s.endTurn).draws = s.draws := rfl
@[simp] theorem State.endTurn_sched (s : State) : (s.endTurn).sched = s.sched := rfl
@[simp] theorem State.endTurn_fn (s : State) : (s.endTurn).fn = s.fn := rfl
@[simp] theorem State.endTurn_seq_stage (s : State) : (s.endTurn).seq.stage = s.seq.stage := rfl
@[simp] theorem State.endTurn_seq_node (s : State) : (s.endTurn).seq.node = s.seq.node := rfl
@[simp] theorem State.endTurn_seq_enqIdx (s : State) : (s.endTurn).seq.enqIdx = s.seq.enqIdx := rfl
@[simp] theorem State.endTurn_seq_ended (s : State) : (s.endTurn).seq.ended = true := rfl
@[simp] theorem State.endTurn_seq_halted (s : State) : (s.endTurn).seq.halted = s.seq.halted := rfl

/-! ## State.turn -/

@[simp] theorem State.turn_cfg (s : State) (g : Stage) (n : Nat) : (s.turn g n).cfg = s.cfg := rfl
@[simp] theorem State.turn_t (s : State) (g : Stage) (n : Nat) : (s.turn g n).t = s.t := rfl
@[simp] theorem State.turn_nodes (s : State) (g : Stage) (n : Nat) : (s.turn g n).nodes = s.nodes := rfl
@[simp] theorem State.turn_wires (s : State) (g : Stage) (n : Nat) : (s.turn g n).wires = s.wires := rfl
@[simp] theorem State.turn_wd (s : State) (g : Stage) (n : Nat) : (s.turn g n).wd = s.wd := rfl
@[simp] theorem State.turn_draws (s : State) (g : Stage) (n : Nat) : (s.turn g n).draws = s.draws := rfl
@[simp] theorem State.turn_sched (s : State) (g : Stage) (n : Nat) : (s.turn g n).sched = s.sched := rfl
@[simp] theorem State.turn_fn (s : State) (g : Stage) (n : Nat) : (s.turn g n).fn = s.fn := rfl
@[simp] theorem State.turn_seq_stage (s : State) (g : Stage) (n : Nat) : (s.turn g n).seq.stage = g := rfl
@[simp] theorem State.turn_seq_node (s : State) (g : Stage) (n : Nat) : (s.turn g n).seq.node = n := rfl
@[simp] theorem State.turn_seq_enqIdx (s : State) (g : Stage) (n : Nat) : (s.turn g n).seq.enqIdx = 0 := rfl
@[simp] theorem State.turn_seq_ended (s : State) (g : Stage) (n : Nat) : (s.turn g n).seq.ended = false := rfl
@[simp] theorem State.turn_seq_halted (s : State) (g : Stage) (n : Nat) : (s.turn g n).seq.halted = s.seq.halted := rfl

/-! ## State.commit -/

@[simp] theorem State.commit_cfg (s : State) : s.commit.cfg = s.cfg := rfl
@[simp] theorem State.commit_t (s : State) : s.commit.t = s.t + 1 := rfl
@[simp] theorem State.commit_seq (s : State) : s.commit.seq = Sequencer.start s.anyFault := rfl
@[simp] theorem State.commit_fn (s : State) : s.commit.fn = s.fn := rfl
@[simp] theorem State.commit_draws (s : State) : s.commit.draws = s.draws.tail := rfl
@[simp] theorem State.commit_sched (s : State) : s.commit.sched = s.sched.filter (fun d => decide (s.t + 1 < d.time)) := rfl
theorem State.commit_nodes (s : State) :
    s.commit.nodes = deliverNodes s.sched (s.t + 1) s.wires.busLow s.wires.busHigh 0 s.nodes := rfl

@[simp] theorem Sequencer.start_stage (h : Bool) : (Sequencer.start h).stage = Stage.ctl := rfl
@[simp] theorem Sequencer.start_node (h : Bool) : (Sequencer.start h).node = 0 := rfl
@[simp] theorem Sequencer.start_enqIdx (h : Bool) : (Sequencer.start h).enqIdx = 0 := rfl
@[simp] theorem Sequencer.start_ended (h : Bool) : (Sequencer.start h).ended = false := rfl
@[simp] theorem Sequencer.start_halted (h : Bool) : (Sequencer.start h).halted = h := rfl

/-! ## NodeOut -/

@[simp] theorem NodeOut.dropCtl_txBit (o : NodeOut) : (o.dropCtl).txBit = [] := rfl
@[simp] theorem NodeOut.dropCtl_frameOut (o : NodeOut) : (o.dropCtl).frameOut = [] := rfl
@[simp] theorem NodeOut.dropCtl_report (o : NodeOut) : (o.dropCtl).report = [] := rfl
@[simp] theorem NodeOut.dropCtl_canLow (o : NodeOut) : (o.dropCtl).canLow = o.canLow := rfl
@[simp] theorem NodeOut.dropCtl_canHigh (o : NodeOut) : (o.dropCtl).canHigh = o.canHigh := rfl
@[simp] theorem NodeOut.dropCtl_rxBit (o : NodeOut) : (o.dropCtl).rxBit = o.rxBit := rfl

/-! ## NodeOut.dropXcv -/

@[simp] theorem NodeOut.dropXcv_txBit (o : NodeOut) : (o.dropXcv).txBit = o.txBit := rfl
@[simp] theorem NodeOut.dropXcv_frameOut (o : NodeOut) : (o.dropXcv).frameOut = o.frameOut := rfl
@[simp] theorem NodeOut.dropXcv_report (o : NodeOut) : (o.dropXcv).report = o.report := rfl
@[simp] theorem NodeOut.dropXcv_canLow (o : NodeOut) : (o.dropXcv).canLow = [] := rfl
@[simp] theorem NodeOut.dropXcv_canHigh (o : NodeOut) : (o.dropXcv).canHigh = [] := rfl
@[simp] theorem NodeOut.dropXcv_rxBit (o : NodeOut) : (o.dropXcv).rxBit = [] := rfl

/-! ## NodeOut.emitTxBit -/

@[simp] theorem NodeOut.emitTxBit_txBit (o : NodeOut) (b : Bit) : (o.emitTxBit b).txBit = o.txBit ++ [b] := rfl
@[simp] theorem NodeOut.emitTxBit_frameOut (o : NodeOut) (b : Bit) : (o.emitTxBit b).frameOut = o.frameOut := rfl
@[simp] theorem NodeOut.emitTxBit_report (o : NodeOut) (b : Bit) : (o.emitTxBit b).report = o.report := rfl
@[simp] theorem NodeOut.emitTxBit_canLow (o : NodeOut) (b : Bit) : (o.emitTxBit b).canLow = o.canLow := rfl
@[simp] theorem NodeOut.emitTxBit_canHigh (o : NodeOut) (b : Bit) : (o.emitTxBit b).canHigh = o.canHigh := rfl
@[simp] theorem NodeOut.emitTxBit_rxBit (o : NodeOut) (b : Bit) : (o.emitTxBit b).rxBit = o.rxBit := rfl

/-! ## NodeOut.emitFrame -/

@[simp] theorem NodeOut.emitFrame_txBit (o : NodeOut) (f : Frame) : (o.emitFrame f).txBit = o.txBit := rfl
@[simp] theorem NodeOut.emitFrame_frameOut (o : NodeOut) (f : Frame) : (o.emitFrame f).frameOut = o.frameOut ++ [f] := rfl
@[simp] theorem NodeOut.emitFrame_report (o : NodeOut) (f : Frame) : (o.emitFrame f).report = o.report := rfl
@[simp] theorem NodeOut.emitFrame_canLow (o : NodeOut) (f : Frame) : (o.emitFrame f).canLow = o.canLow := rfl
@[simp] theorem NodeOut.emitFrame_canHigh (o : NodeOut) (f : Frame) : (o.emitFrame f).canHigh = o.canHigh := rfl
@[simp] theorem NodeOut.emitFrame_rxBit (o : NodeOut) (f : Frame) : (o.emitFrame f).rxBit = o.rxBit := rfl

/-! ## NodeOut.emitReport -/

@[simp] theorem NodeOut.emitReport_txBit (o : NodeOut) (n : Nat) (st : BitVec 3) : (o.emitReport n st).txBit = o.txBit := rfl
@[simp] theorem NodeOut.emitReport_frameOut (o : NodeOut) (n : Nat) (st : BitVec 3) : (o.emitReport n st).frameOut = o.frameOut := rfl
@[simp] theorem NodeOut.emitReport_report (o : NodeOut) (n : Nat) (st : BitVec 3) : (o.emitReport n st).report = o.report ++ [⟨n, st⟩] := rfl
@[simp] theorem NodeOut.emitReport_canLow (o : NodeOut) (n : Nat) (st : BitVec 3) : (o.emitReport n st).canLow = o.canLow := rfl
@[simp] theorem NodeOut.emitReport_canHigh (o : NodeOut) (n : Nat) (st : BitVec 3) : (o.emitReport n st).canHigh = o.canHigh := rfl
@[simp] theorem NodeOut.emitReport_rxBit (o : NodeOut) (n : Nat) (st : BitVec 3) : (o.emitReport n st).rxBit = o.rxBit := rfl

/-! ## NodeOut.emitCan -/

@[simp] theorem NodeOut.emitCan_txBit (o : NodeOut) (lo hi : Voltage) : (o.emitCan lo hi).txBit = o.txBit := rfl
@[simp] theorem NodeOut.emitCan_frameOut (o : NodeOut) (lo hi : Voltage) : (o.emitCan lo hi).frameOut = o.frameOut := rfl
@[simp] theorem NodeOut.emitCan_report (o : NodeOut) (lo hi : Voltage) : (o.emitCan lo hi).report = o.report := rfl
@[simp] theorem NodeOut.emitCan_canLow (o : NodeOut) (lo hi : Voltage) : (o.emitCan lo hi).canLow = o.canLow ++ [lo] := rfl
@[simp] theorem NodeOut.emitCan_canHigh (o : NodeOut) (lo hi : Voltage) : (o.emitCan lo hi).canHigh = o.canHigh ++ [hi] := rfl
@[simp] theorem NodeOut.emitCan_rxBit (o : NodeOut) (lo hi : Voltage) : (o.emitCan lo hi).rxBit = o.rxBit := rfl

/-! ## NodeOut.emitRxBit -/

@[simp] theorem NodeOut.emitRxBit_txBit (o : NodeOut) (b : Bit) : (o.emitRxBit b).txBit = o.txBit := rfl
@[simp] theorem NodeOut.emitRxBit_frameOut (o : NodeOut) (b : Bit) : (o.emitRxBit b).frameOut = o.frameOut := rfl
@[simp] theorem NodeOut.emitRxBit_report (o : NodeOut) (b : Bit) : (o.emitRxBit b).report = o.report := rfl
@[simp] theorem NodeOut.emitRxBit_canLow (o : NodeOut) (b : Bit) : (o.emitRxBit b).canLow = o.canLow := rfl
@[simp] theorem NodeOut.emitRxBit_canHigh (o : NodeOut) (b : Bit) : (o.emitRxBit b).canHigh = o.canHigh := rfl
@[simp] theorem NodeOut.emitRxBit_rxBit (o : NodeOut) (b : Bit) : (o.emitRxBit b).rxBit = o.rxBit ++ [b] := rfl

/-! ## Controller.push -/

@[simp] theorem Controller.push_state (c : Controller) (e : TxEntry) : (c.push e).state = c.state := rfl
@[simp] theorem Controller.push_wcnt (c : Controller) (e : TxEntry) : (c.push e).wcnt = c.wcnt := rfl
@[simp] theorem Controller.push_txq (c : Controller) (e : TxEntry) : (c.push e).txq = c.txq ++ [e] := rfl
@[simp] theorem Controller.push_rx (c : Controller) (e : TxEntry) : (c.push e).rx = c.rx := rfl
@[simp] theorem Controller.push_fault (c : Controller) (e : TxEntry) : (c.push e).fault = c.fault := rfl

/-! ## Controller.pop -/

@[simp] theorem Controller.pop_state (c : Controller) : (c.pop).state = c.state := rfl
@[simp] theorem Controller.pop_wcnt (c : Controller) : (c.pop).wcnt = c.wcnt := rfl
@[simp] theorem Controller.pop_txq (c : Controller) : (c.pop).txq = c.txq.tail := rfl
@[simp] theorem Controller.pop_rx (c : Controller) : (c.pop).rx = c.rx := rfl
@[simp] theorem Controller.pop_fault (c : Controller) : (c.pop).fault = c.fault := rfl

/-! ## Controller.setHeadOff -/

@[simp] theorem Controller.setHeadOff_state (c : Controller) (v : BitVec 7) : (c.setHeadOff v).state = c.state := by
  unfold Controller.setHeadOff; split <;> rfl
@[simp] theorem Controller.setHeadOff_wcnt (c : Controller) (v : BitVec 7) : (c.setHeadOff v).wcnt = c.wcnt := by
  unfold Controller.setHeadOff; split <;> rfl
@[simp] theorem Controller.setHeadOff_rx (c : Controller) (v : BitVec 7) : (c.setHeadOff v).rx = c.rx := by
  unfold Controller.setHeadOff; split <;> rfl
@[simp] theorem Controller.setHeadOff_fault (c : Controller) (v : BitVec 7) : (c.setHeadOff v).fault = c.fault := by
  unfold Controller.setHeadOff; split <;> rfl

theorem Controller.setHeadOff_cons (c : Controller) (v : BitVec 7) (h : TxEntry) (q : List TxEntry) (e : c.txq = h :: q) :
    c.setHeadOff v = { c with txq := { h with off := v } :: q } := by
  simp [Controller.setHeadOff, e]

theorem Controller.setHeadOff_nil (c : Controller) (v : BitVec 7) (e : c.txq = []) : c.setHeadOff v = c := by
  simp [Controller.setHeadOff, e]

/-! ## A new entry (R160) -/

@[simp] theorem newEntry_frame (f : Frame) : (newEntry f).frame = f := rfl
@[simp] theorem newEntry_stream (f : Frame) : (newEntry f).stream = rawStream f := rfl
@[simp] theorem newEntry_len (f : Frame) : (newEntry f).len = BitVec.ofNat 7 (rawStream f).length := rfl
@[simp] theorem newEntry_arbEnd (f : Frame) : (newEntry f).arbEnd = BitVec.ofNat 4 (rawArbEnd f) := rfl
@[simp] theorem newEntry_off (f : Frame) : (newEntry f).off = 0 := rfl

/-! ## Wires -/

@[simp] theorem Wires.emitPair_inj (w : Wires) (lo hi : Voltage) : (w.emitPair lo hi).inj = w.inj := rfl
@[simp] theorem Wires.emitPair_fault (w : Wires) (lo hi : Voltage) : (w.emitPair lo hi).fault = w.fault := rfl
@[simp] theorem Wires.emitPair_wLow (w : Wires) (lo hi : Voltage) : (w.emitPair lo hi).wLow = w.wLow := rfl
@[simp] theorem Wires.emitPair_wHigh (w : Wires) (lo hi : Voltage) : (w.emitPair lo hi).wHigh = w.wHigh := rfl
@[simp] theorem Wires.emitPair_wReq (w : Wires) (lo hi : Voltage) : (w.emitPair lo hi).wReq = w.wReq := rfl
@[simp] theorem Wires.emitPair_lows (w : Wires) (lo hi : Voltage) : (w.emitPair lo hi).lows = w.lows := rfl
@[simp] theorem Wires.emitPair_highs (w : Wires) (lo hi : Voltage) : (w.emitPair lo hi).highs = w.highs := rfl
@[simp] theorem Wires.emitPair_busLow (w : Wires) (lo hi : Voltage) : (w.emitPair lo hi).busLow = w.busLow ++ [lo] := rfl
@[simp] theorem Wires.emitPair_busHigh (w : Wires) (lo hi : Voltage) : (w.emitPair lo hi).busHigh = w.busHigh ++ [hi] := rfl

/-! ## Wires.deliver -/

@[simp] theorem Wires.deliver_inj (w : Wires) (l h : List Voltage) (r : List RecessiveRequest) : (w.deliver l h r).inj = w.inj := rfl
@[simp] theorem Wires.deliver_fault (w : Wires) (l h : List Voltage) (r : List RecessiveRequest) : (w.deliver l h r).fault = w.fault := rfl
@[simp] theorem Wires.deliver_wLow (w : Wires) (l h : List Voltage) (r : List RecessiveRequest) : (w.deliver l h r).wLow = l := rfl
@[simp] theorem Wires.deliver_wHigh (w : Wires) (l h : List Voltage) (r : List RecessiveRequest) : (w.deliver l h r).wHigh = h := rfl
@[simp] theorem Wires.deliver_wReq (w : Wires) (l h : List Voltage) (r : List RecessiveRequest) : (w.deliver l h r).wReq = r := rfl
@[simp] theorem Wires.deliver_lows (w : Wires) (l h : List Voltage) (r : List RecessiveRequest) : (w.deliver l h r).lows = [] := rfl
@[simp] theorem Wires.deliver_highs (w : Wires) (l h : List Voltage) (r : List RecessiveRequest) : (w.deliver l h r).highs = [] := rfl
@[simp] theorem Wires.deliver_busLow (w : Wires) (l h : List Voltage) (r : List RecessiveRequest) : (w.deliver l h r).busLow = [] := rfl
@[simp] theorem Wires.deliver_busHigh (w : Wires) (l h : List Voltage) (r : List RecessiveRequest) : (w.deliver l h r).busHigh = [] := rfl

/-! ## Watchdog -/

@[simp] theorem Watchdog.observe_last (w : Watchdog) (i : Nat) (a : Bool) : (w.observe i a).last = w.merged := rfl
@[simp] theorem Watchdog.observe_idle (w : Watchdog) (i : Nat) (a : Bool) : (w.observe i a).idle = i := rfl
@[simp] theorem Watchdog.observe_active (w : Watchdog) (i : Nat) (a : Bool) : (w.observe i a).active = a := rfl
@[simp] theorem Watchdog.observe_wdState (w : Watchdog) (i : Nat) (a : Bool) : (w.observe i a).wdState = w.wdState := rfl
@[simp] theorem Watchdog.observe_wdBusLow (w : Watchdog) (i : Nat) (a : Bool) : (w.observe i a).wdBusLow = w.wdBusLow := rfl
@[simp] theorem Watchdog.observe_wdBusHigh (w : Watchdog) (i : Nat) (a : Bool) : (w.observe i a).wdBusHigh = w.wdBusHigh := rfl
@[simp] theorem Watchdog.observe_req (w : Watchdog) (i : Nat) (a : Bool) : (w.observe i a).req = w.req := rfl

/-! ## Watchdog.emitReq -/

@[simp] theorem Watchdog.emitReq_last (w : Watchdog) : (w.emitReq).last = w.last := rfl
@[simp] theorem Watchdog.emitReq_idle (w : Watchdog) : (w.emitReq).idle = w.idle := rfl
@[simp] theorem Watchdog.emitReq_active (w : Watchdog) : (w.emitReq).active = w.active := rfl
@[simp] theorem Watchdog.emitReq_wdState (w : Watchdog) : (w.emitReq).wdState = w.wdState := rfl
@[simp] theorem Watchdog.emitReq_wdBusLow (w : Watchdog) : (w.emitReq).wdBusLow = w.wdBusLow := rfl
@[simp] theorem Watchdog.emitReq_wdBusHigh (w : Watchdog) : (w.emitReq).wdBusHigh = w.wdBusHigh := rfl
@[simp] theorem Watchdog.emitReq_req (w : Watchdog) : (w.emitReq).req = w.req ++ [.token] := rfl

/-! ## Watchdog.deliver -/

@[simp] theorem Watchdog.deliver_last (w : Watchdog) (r : List StateReport) (l h : List Voltage) : (w.deliver r l h).last = w.last := rfl
@[simp] theorem Watchdog.deliver_idle (w : Watchdog) (r : List StateReport) (l h : List Voltage) : (w.deliver r l h).idle = w.idle := rfl
@[simp] theorem Watchdog.deliver_active (w : Watchdog) (r : List StateReport) (l h : List Voltage) : (w.deliver r l h).active = w.active := rfl
@[simp] theorem Watchdog.deliver_wdState (w : Watchdog) (r : List StateReport) (l h : List Voltage) : (w.deliver r l h).wdState = r := rfl
@[simp] theorem Watchdog.deliver_wdBusLow (w : Watchdog) (r : List StateReport) (l h : List Voltage) : (w.deliver r l h).wdBusLow = l := rfl
@[simp] theorem Watchdog.deliver_wdBusHigh (w : Watchdog) (r : List StateReport) (l h : List Voltage) : (w.deliver r l h).wdBusHigh = h := rfl
@[simp] theorem Watchdog.deliver_req (w : Watchdog) (r : List StateReport) (l h : List Voltage) : (w.deliver r l h).req = [] := rfl

/-! ## Node.deliver -/

@[simp] theorem Node.deliver_ctl (nd : Node) (e : List Frame) (l h : List Voltage) : (nd.deliver e l h).ctl = nd.ctl := rfl
@[simp] theorem Node.deliver_xcvFault (nd : Node) (e : List Frame) (l h : List Voltage) : (nd.deliver e l h).xcvFault = nd.xcvFault := rfl
@[simp] theorem Node.deliver_out (nd : Node) (e : List Frame) (l h : List Voltage) : (nd.deliver e l h).out = NodeOut.empty := rfl
@[simp] theorem Node.deliver_inp_ctlRxBit (nd : Node) (e : List Frame) (l h : List Voltage) : (nd.deliver e l h).inp.ctlRxBit = nd.out.rxBit := rfl
@[simp] theorem Node.deliver_inp_ctlEnq (nd : Node) (e : List Frame) (l h : List Voltage) : (nd.deliver e l h).inp.ctlEnq = e := rfl
@[simp] theorem Node.deliver_inp_xcvTxBit (nd : Node) (e : List Frame) (l h : List Voltage) : (nd.deliver e l h).inp.xcvTxBit = nd.out.txBit := rfl
@[simp] theorem Node.deliver_inp_xcvBusLow (nd : Node) (e : List Frame) (l h : List Voltage) : (nd.deliver e l h).inp.xcvBusLow = l := rfl
@[simp] theorem Node.deliver_inp_xcvBusHigh (nd : Node) (e : List Frame) (l h : List Voltage) : (nd.deliver e l h).inp.xcvBusHigh = h := rfl
@[simp] theorem Node.deliver_inp_hostFrame (nd : Node) (e : List Frame) (l h : List Voltage) : (nd.deliver e l h).inp.hostFrame = nd.out.frameOut := rfl

/-! ## The receive assembler -/

@[simp] theorem Assembler.takeSkip_data (a : Assembler) (b : Bit) : (a.takeSkip b).data = a.data := rfl
@[simp] theorem Assembler.takeSkip_runVal (a : Assembler) (b : Bit) : (a.takeSkip b).runVal = b := rfl
@[simp] theorem Assembler.takeSkip_runLen (a : Assembler) (b : Bit) : (a.takeSkip b).runLen = 1 := rfl
@[simp] theorem Assembler.takeSkip_skip (a : Assembler) (b : Bit) : (a.takeSkip b).skip = false := rfl
@[simp] theorem Assembler.takeSkip_hdr (a : Assembler) (b : Bit) : (a.takeSkip b).hdr = a.hdr := rfl
@[simp] theorem Assembler.takeSkip_dlc (a : Assembler) (b : Bit) : (a.takeSkip b).dlc = a.dlc := rfl
@[simp] theorem Assembler.takeSkip_trl (a : Assembler) (b : Bit) : (a.takeSkip b).trl = a.trl := rfl
@[simp] theorem Assembler.takeSkip_trlBad (a : Assembler) (b : Bit) : (a.takeSkip b).trlBad = a.trlBad := rfl

/-! ## Assembler.takeBadeof -/

@[simp] theorem Assembler.takeBadeof_data (a : Assembler) : (a.takeBadeof).data = a.data := rfl
@[simp] theorem Assembler.takeBadeof_runVal (a : Assembler) : (a.takeBadeof).runVal = a.runVal := rfl
@[simp] theorem Assembler.takeBadeof_runLen (a : Assembler) : (a.takeBadeof).runLen = a.runLen := rfl
@[simp] theorem Assembler.takeBadeof_skip (a : Assembler) : (a.takeBadeof).skip = a.skip := rfl
@[simp] theorem Assembler.takeBadeof_hdr (a : Assembler) : (a.takeBadeof).hdr = a.hdr := rfl
@[simp] theorem Assembler.takeBadeof_dlc (a : Assembler) : (a.takeBadeof).dlc = a.dlc := rfl
@[simp] theorem Assembler.takeBadeof_trl (a : Assembler) : (a.takeBadeof).trl = a.trl + 1 := rfl
@[simp] theorem Assembler.takeBadeof_trlBad (a : Assembler) : (a.takeBadeof).trlBad = true := rfl

/-! ## Assembler.takeTrail -/

@[simp] theorem Assembler.takeTrail_data (a : Assembler) (b : Bit) : (a.takeTrail b).data = a.data := rfl
@[simp] theorem Assembler.takeTrail_runVal (a : Assembler) (b : Bit) : (a.takeTrail b).runVal = a.runVal := rfl
@[simp] theorem Assembler.takeTrail_runLen (a : Assembler) (b : Bit) : (a.takeTrail b).runLen = a.runLen := rfl
@[simp] theorem Assembler.takeTrail_skip (a : Assembler) (b : Bit) : (a.takeTrail b).skip = a.skip := rfl
@[simp] theorem Assembler.takeTrail_hdr (a : Assembler) (b : Bit) : (a.takeTrail b).hdr = a.hdr := rfl
@[simp] theorem Assembler.takeTrail_dlc (a : Assembler) (b : Bit) : (a.takeTrail b).dlc = a.dlc := rfl
@[simp] theorem Assembler.takeTrail_trl (a : Assembler) (b : Bit) : (a.takeTrail b).trl = a.trl + 1 := rfl

theorem Assembler.takeTrail_trlBad (a : Assembler) (b : Bit) : (a.takeTrail b).trlBad = (a.trlBad || b == dominant) := by
  cases b <;> simp [Assembler.takeTrail]

@[simp] theorem Assembler.run_data (a : Assembler) (b : Bit) : (a.run b).data = a.data := by
  unfold Assembler.run; dsimp only; split <;> split <;> rfl
@[simp] theorem Assembler.run_hdr (a : Assembler) (b : Bit) : (a.run b).hdr = a.hdr := by
  unfold Assembler.run; dsimp only; split <;> split <;> rfl
@[simp] theorem Assembler.run_dlc (a : Assembler) (b : Bit) : (a.run b).dlc = a.dlc := by
  unfold Assembler.run; dsimp only; split <;> split <;> rfl
@[simp] theorem Assembler.run_trl (a : Assembler) (b : Bit) : (a.run b).trl = a.trl := by
  unfold Assembler.run; dsimp only; split <;> split <;> rfl
@[simp] theorem Assembler.run_trlBad (a : Assembler) (b : Bit) : (a.run b).trlBad = a.trlBad := by
  unfold Assembler.run; dsimp only; split <;> split <;> rfl

/-- The run register after a bit (R164): the run grows, or a new run of 1 starts. -/
theorem Assembler.run_runLen (a : Assembler) (b : Bit) :
    (a.run b).runLen = if 0 < a.runLen.toNat ∧ b = a.runVal then a.runLen + 1 else 1 := by
  unfold Assembler.run; dsimp only; split <;> split <;> rfl

/-- The run's value after a bit is the bit (R164). -/
@[simp] theorem Assembler.run_runVal (a : Assembler) (b : Bit) : (a.run b).runVal = b := by
  unfold Assembler.run; dsimp only
  split
  · next h => split <;> exact h.2.symm
  · split <;> rfl

/-- A stuff bit is due after the bit exactly when one was due already or the run has reached STUFF_K (R164). -/
theorem Assembler.run_skip (a : Assembler) (b : Bit) :
    (a.run b).skip = (a.skip || decide (stuffK ≤ (a.run b).runLen.toNat)) := by
  rw [Assembler.run_runLen]
  unfold Assembler.run; dsimp only
  split <;> split <;> simp_all

@[simp] theorem Assembler.takeData_data (a : Assembler) (b : Bit) : (a.takeData b).data = a.data ++ [b] := by
  simp [Assembler.takeData]
@[simp] theorem Assembler.takeData_hdr (a : Assembler) (b : Bit) : (a.takeData b).hdr = a.hdr := by simp [Assembler.takeData]
@[simp] theorem Assembler.takeData_dlc (a : Assembler) (b : Bit) : (a.takeData b).dlc = a.dlc := by simp [Assembler.takeData]
@[simp] theorem Assembler.takeData_trl (a : Assembler) (b : Bit) : (a.takeData b).trl = a.trl := by simp [Assembler.takeData]
@[simp] theorem Assembler.takeData_trlBad (a : Assembler) (b : Bit) : (a.takeData b).trlBad = a.trlBad := by
  simp [Assembler.takeData]

/-! ## Fault records (R190) -/

@[simp] theorem FaultReg.clear_latched : FaultReg.clear.latched = false := rfl

theorem FaultReg.latched_iff (r : FaultReg) : r.latched = true ↔ r.code ≠ 0 := bne_iff_ne

/-- The first fault is recorded, its info cut off at 255. -/
theorem FaultReg.raise_of_clear (r : FaultReg) (k : FaultKind) (info : Nat) (h : r.code = 0) :
    r.raise k info = ⟨k.code, BitVec.ofNat 8 (min info 255)⟩ := if_pos h

/-- A record once latched is kept. -/
theorem FaultReg.raise_of_latched (r : FaultReg) (k : FaultKind) (info : Nat) (h : r.code ≠ 0) : r.raise k info = r := if_neg h

theorem FaultKind.code_ne_zero (k : FaultKind) : k.code ≠ 0 := by cases k <;> decide

/-- After `raise` a fault is latched, whatever was there before. -/
@[simp] theorem FaultReg.raise_latched (r : FaultReg) (k : FaultKind) (info : Nat) : (r.raise k info).latched = true := by
  by_cases h : r.code = 0
  · rw [FaultReg.raise_of_clear r k info h, FaultReg.latched_iff]
    exact k.code_ne_zero
  · rw [FaultReg.raise_of_latched r k info h, FaultReg.latched_iff]
    exact h

/-! ## The constants (R8, R9) -/

theorem headerBits_eq : headerBits = 16 := rfl
theorem trailerLen_eq : trailerLen = 10 := rfl
theorem waitThreshold_eq : waitThreshold = 10 := rfl
theorem dataRegionLen_eq (d : Nat) : dataRegionLen d = 16 + 8 * d := rfl

end Sys2Proof.Machine
end

