-- ==== Sys2Proof/Laws/Ops.lean ====
section
/-! SUPPORT. What the shared operations do, said once: what each answers where it is defined, and what must hold where it answers
a next state. Later proofs cite these and do not unfold the operations. -/
namespace Sys2Proof.Machine

/-! ## Reaching a node -/

theorem State.node?_lt (s : State) (nd : Node) (h : s.node? = some nd) : s.seq.node < s.nodes.length :=
  (List.getElem?_eq_some_iff.mp h).1

theorem withNode_of_node (s : State) (nd : Node) (k : Node → Result) (h : s.node? = some nd) : withNode s k = k nd := by
  simp [withNode, h]

theorem withNode_next (s t : State) (k : Node → Result) (h : withNode s k = .next t) :
    ∃ nd, s.node? = some nd ∧ k nd = .next t := by
  unfold withNode at h
  split at h
  · next nd hn => exact ⟨nd, hn, h⟩
  · exact absurd h (by simp)

/-- The written node is the one read back. -/
theorem State.putNode_node? (s : State) (nd nd' : Node) (h : s.node? = some nd) : (s.putNode nd').node? = some nd' := by
  show (s.nodes.set s.seq.node nd')[s.seq.node]? = some nd'
  exact List.getElem?_set_self (s.node?_lt nd h)

/-- Every other node is as before. -/
theorem State.putNode_other (s : State) (nd' : Node) (m : Nat) (h : m ≠ s.seq.node) :
    (s.putNode nd').nodes[m]? = s.nodes[m]? := by
  simp [List.getElem?_set_ne (Ne.symm h)]

theorem updateCtl_of_node (s : State) (nd : Node) (g : Controller → Controller) (h : s.node? = some nd) :
    updateCtl s g = .next (s.putNode { nd with ctl := g nd.ctl }) := withNode_of_node s nd _ h

theorem updateCtl_next (s t : State) (g : Controller → Controller) (h : updateCtl s g = .next t) :
    ∃ nd, s.node? = some nd ∧ t = s.putNode { nd with ctl := g nd.ctl } := by
  obtain ⟨nd, hn, ht⟩ := withNode_next s t _ h
  exact ⟨nd, hn, by simpa using ht.symm⟩

/-! ## The head of the queue -/

theorem withHead_of_cons (nd : Node) (h : TxEntry) (q : List TxEntry) (k : TxEntry → Result) (e : nd.ctl.txq = h :: q) :
    withHead nd k = k h := by
  simp [withHead, e]

theorem withHead_next (nd : Node) (t : State) (k : TxEntry → Result) (e : withHead nd k = .next t) :
    ∃ h q, nd.ctl.txq = h :: q ∧ k h = .next t := by
  unfold withHead at e
  split at e
  · next h q hq => exact ⟨h, q, hq, e⟩
  · exact absurd e (by simp)

theorem txWrite_of_bit (s : State) (nd : Node) (h : TxEntry) (q : List TxEntry) (b : Bit) (e : nd.ctl.txq = h :: q)
    (hb : h.stream[h.off.toNat]? = some b) :
    txWrite s nd = .next (s.putNode { nd with
      ctl := { nd.ctl with txq := { h with off := h.off + 1 } :: q }, out := nd.out.emitTxBit b }) := by
  rw [txWrite, withHead_of_cons nd h q _ e]
  simp [hb, Controller.setHeadOff_cons _ _ h q e]

theorem txWrite_next (s t : State) (nd : Node) (e : txWrite s nd = .next t) :
    ∃ h q b, nd.ctl.txq = h :: q ∧ h.stream[h.off.toNat]? = some b ∧
      t = s.putNode { nd with
        ctl := { nd.ctl with txq := { h with off := h.off + 1 } :: q }, out := nd.out.emitTxBit b } := by
  obtain ⟨h, q, hq, hk⟩ := withHead_next nd t _ e
  cases hb : h.stream[h.off.toNat]? with
  | none => simp [hb] at hk
  | some b =>
    refine ⟨h, q, b, hq, hb, ?_⟩
    simpa [hb, Controller.setHeadOff_cons _ _ h q hq] using hk.symm

theorem lastIndex_of_pos (h : TxEntry) (hp : 1 ≤ h.off.toNat) : lastIndex h = .ok (h.off.toNat - 1) := by
  unfold lastIndex
  split
  · omega
  · next i hi => simp [hi]

theorem lastIndex_ok (h : TxEntry) (i : Nat) (e : lastIndex h = .ok i) : h.off.toNat = i + 1 := by
  unfold lastIndex at e
  split at e
  · simp at e
  · next j hj => simp at e; omega

theorem lastSent_of_bit (h : TxEntry) (b : Bit) (hp : 1 ≤ h.off.toNat) (hb : h.stream[h.off.toNat - 1]? = some b) :
    lastSent h = .ok b := by
  simp [lastSent, lastIndex_of_pos h hp, hb]

/-! ## What an operation may change -/

/-- `raise` and the emits of one agent apart, an operation changes the node whose turn it is, or the wires, or the watchdog, or the
codec unit, and beside that only `seq.ended`. -/
inductive Change (s : State) : State → Prop where
  | node (nd nd' : Node) (e : Bool) (h : s.node? = some nd) :
      Change s { s.putNode nd' with seq := { s.seq with ended := e } }
  | wires (w : Wires) (e : Bool) : Change s { s with wires := w, seq := { s.seq with ended := e } }
  | watchdog (w : Watchdog) : Change s { s with wd := w }
  | codec (r : FnResult) : Change s { s with fn := { s.fn with result := r } }

/-- An operation without effect is a change to nothing. -/
theorem Change.refl (s : State) : Change s s := .watchdog s.wd

theorem Change.putNode (s : State) (nd nd' : Node) (h : s.node? = some nd) : Change s (s.putNode nd') :=
  .node nd nd' s.seq.ended h

theorem Change.putNode_endTurn (s : State) (nd nd' : Node) (h : s.node? = some nd) : Change s (s.putNode nd').endTurn :=
  .node nd nd' true h

theorem noEffect_change (s t : State) (h : noEffect s = .next t) : Change s t := by
  obtain rfl : s = t := by simpa [noEffect] using h
  exact .refl s

theorem withNode_change (s t : State) (k : Node → Result) (h : withNode s k = .next t)
    (hk : ∀ nd, s.node? = some nd → k nd = .next t → Change s t) : Change s t := by
  obtain ⟨nd, hn, ht⟩ := withNode_next s t k h
  exact hk nd hn ht

theorem updateCtl_change (s t : State) (g : Controller → Controller) (h : updateCtl s g = .next t) : Change s t := by
  obtain ⟨nd, hn, rfl⟩ := updateCtl_next s t g h
  exact .putNode s nd _ hn

theorem raiseCtl_change (s t : State) (nd nd' : Node) (k : FaultKind) (n : Nat) (hn : s.node? = some nd)
    (h : raiseCtl s nd' k n = .next t) : Change s t := by
  obtain rfl := by simpa [raiseCtl] using h
  exact .putNode_endTurn s nd _ hn

theorem raiseXcv_change (s t : State) (nd nd' : Node) (k : FaultKind) (n : Nat) (hn : s.node? = some nd)
    (h : raiseXcv s nd' k n = .next t) : Change s t := by
  obtain rfl := by simpa [raiseXcv] using h
  exact .putNode_endTurn s nd _ hn

theorem raiseWires_change (s t : State) (k : FaultKind) (n : Nat) (h : raiseWires s k n = .next t) : Change s t := by
  obtain rfl := by simpa [raiseWires] using h
  exact .wires _ true

theorem txWrite_change (s t : State) (nd nd' : Node) (hn : s.node? = some nd) (h : txWrite s nd' = .next t) : Change s t := by
  obtain ⟨_, _, _, _, _, rfl⟩ := txWrite_next s t nd' h
  exact .putNode s nd _ hn

theorem fnReturn_change (s t : State) (r : FnResult) (h : fnReturn s r = .next t) : Change s t := by
  obtain rfl := by simpa [fnReturn] using h
  exact .codec r

/-- Every operation that answers a next state makes one such change. -/
theorem exec_change (i : Instr) (s t : State) (h : exec i s = .next t) : Change s t := by
  cases i with
  | ctlHalted | ctlNobit | idleStay | enqHalted | xcvWrnone | xcvRdnone | wiresIdle | wdgDormant => exact noEffect_change s t h
  | ctlBadState5 | ctlBadState67 | ctlBadStateRxc | ctlMulti | rxHdrbad | rxBadeof | enqBad =>
    exact withNode_change s t _ h fun nd hn hk => raiseCtl_change s t nd _ _ _ hn hk
  | idleSof | idleStart | waitSof | waitCount | rxData | rxSkip | rxHdr | rxTrail =>
    simp only [exec, execIdleSof, execIdleStart, execWaitSof, execWaitCount, execRxData, execRxSkip, execRxHdr, execRxTrail] at h
    exact updateCtl_change s t _ h
  | waitGo | arbMatch | arbWon | txNext => exact withNode_change s t _ h fun nd hn hk => txWrite_change s t nd _ hn hk
  | arbLost =>
    refine withNode_change s t _ h fun nd hn hk => ?_
    obtain ⟨e, q, hq, hk⟩ := withHead_next nd t _ hk
    cases hi : lastIndex e with
    | error => simp [hi] at hk
    | ok i =>
      obtain rfl := by simpa [hi] using hk
      exact .putNode s nd _ hn
  | arbBusfault =>
    refine withNode_change s t _ h fun nd hn hk => ?_
    obtain ⟨e, q, hq, hk⟩ := withHead_next nd t _ hk
    cases hi : lastIndex e with
    | error => simp [hi] at hk
    | ok i => exact raiseCtl_change s t nd _ _ _ hn (by simpa [hi] using hk)
  | txDone =>
    refine withNode_change s t _ h fun nd hn hk => ?_
    obtain ⟨e, q, hq, hk⟩ := withHead_next nd t _ hk
    obtain rfl := by simpa using hk
    exact .putNode s nd _ hn
  | rxDone =>
    refine withNode_change s t _ h fun nd hn hk => ?_
    cases hf : bitsToFrame nd.ctl.rx.data with
    | error => simp [hf] at hk
    | ok f =>
      obtain rfl := by simpa [hf] using hk
      exact .putNode s nd _ hn
  | enqFull =>
    refine withNode_change s t _ h fun nd hn hk => ?_
    split at hk
    · exact raiseCtl_change s t nd _ _ _ hn hk
    · exact noEffect_change s t hk
  | enq =>
    refine withNode_change s t _ h fun nd hn hk => ?_
    cases hf : enqFrame s nd with
    | none => simp [hf] at hk
    | some f =>
      obtain rfl := by simpa [hf] using hk
      exact .putNode s nd _ hn
  | xcvWrmulti | xcvRdmulti | xcvRdbad => exact withNode_change s t _ h fun nd hn hk => raiseXcv_change s t nd _ _ _ hn hk
  | xcvWr0 | xcvWr1 | xcvRd0 | xcvRd1 =>
    refine withNode_change s t _ h fun nd hn hk => ?_
    obtain rfl := by simpa using hk
    exact .putNode s nd _ hn
  | wiresInject | wiresNoinj =>
    obtain rfl := by simpa [exec, execWiresInject, execWiresNoinj] using h
    exact .wires _ s.seq.ended
  | wiresNosamples | wiresMismatch => exact raiseWires_change s t _ _ h
  | wiresLowhigh =>
    simp only [exec, execWiresLowhigh] at h
    split at h
    · exact raiseWires_change s t _ _ h
    · exact noEffect_change s t h
  | wiresRange =>
    simp only [exec, execWiresRange] at h
    split at h
    · exact raiseWires_change s t _ _ h
    · exact noEffect_change s t h
  | wiresResolve =>
    simp only [exec, execWiresResolve] at h
    split at h
    · obtain rfl := by simpa using h
      exact .wires _ s.seq.ended
    · simp at h
  | wdgRequest | wdgContBusy | wdgSleep | wdgContIdle =>
    obtain rfl := by simpa [exec, execWdgRequest, execWdgContBusy, execWdgSleep, execWdgContIdle] using h
    exact .watchdog _
  | fnStuff | fnDestuff =>
    simp only [exec, execFnStuff, execFnDestuff] at h
    split at h
    · simp at h
    · exact fnReturn_change s t _ h
  | fnFrameToBits | fnFrameValid | fnArbEnd => exact fnReturn_change s t _ h
  | fnBitsToFrame | fnDecodeWire =>
    simp only [exec, execFnBitsToFrame, execFnDecodeWire] at h
    split at h <;> exact fnReturn_change s t _ h
  | fnReserved => simp [exec, execFnReserved] at h

end Sys2Proof.Machine
end

