-- ==== Sys2Proof/Laws/PerInstr.lean ====
section
/-! SUPPORT. The per-operation family RoundTrip: the decoder reads an operation's selector word back as that operation, with every
operand at every value (30_encoding section 4). -/
namespace Sys2Proof.Laws.RoundTrip

set_option Elab.async false

/-- What holds of every operation: its word decodes to it, when some word does. -/
def Statement (i : Instr) : Prop := WellFormed i = true → decode (encode i) = some i

theorem ctlHalted (s : BitVec 3) (n : BitVec 2) (b : Bit) (c : BitVec 3) : Statement (.ctlHalted s n b c) := by
  unfold Statement; revert s n b c; decide +kernel

theorem ctlBadState5 (n : BitVec 2) (b : Bit) (c : BitVec 3) : Statement (.ctlBadState5 n b c) := by
  unfold Statement; revert n b c; decide +kernel

theorem ctlBadState67 (low : Bit) (n : BitVec 2) (b : Bit) (c : BitVec 3) : Statement (.ctlBadState67 low n b c) := by
  unfold Statement; revert low n b c; decide +kernel

theorem ctlMulti (s : BitVec 3) (n : Bit) (b : Bit) (c : BitVec 3) : Statement (.ctlMulti s n b c) := by
  unfold Statement; revert s n b c; decide +kernel

theorem ctlNobit (s : BitVec 3) (b : Bit) (c : BitVec 3) : Statement (.ctlNobit s b c) := by
  unfold Statement; revert s b c; decide +kernel

theorem idleSof (c : BitVec 3) : Statement (.idleSof c) := by
  unfold Statement; revert c; decide +kernel

theorem idleStart (c : BitVec 2) : Statement (.idleStart c) := by
  unfold Statement; revert c; decide +kernel

theorem idleStay (c : BitVec 2) : Statement (.idleStay c) := by
  unfold Statement; revert c; decide +kernel

theorem waitSof (c : BitVec 3) : Statement (.waitSof c) := by
  unfold Statement; revert c; decide +kernel

theorem waitGo (c : BitVec 2) : Statement (.waitGo c) := by
  unfold Statement; revert c; decide +kernel

theorem waitCount (c : BitVec 2) : Statement (.waitCount c) := by
  unfold Statement; revert c; decide +kernel

theorem arbMatch (b : Bit) (c : Bit) : Statement (.arbMatch b c) := by
  unfold Statement; revert b c; decide +kernel

theorem arbWon (b : Bit) (c : Bit) : Statement (.arbWon b c) := by
  unfold Statement; revert b c; decide +kernel

theorem arbLost (c : BitVec 2) : Statement (.arbLost c) := by
  unfold Statement; revert c; decide +kernel

theorem arbBusfault (c : BitVec 2) : Statement (.arbBusfault c) := by
  unfold Statement; revert c; decide +kernel

theorem txNext (b : Bit) (c : BitVec 2) : Statement (.txNext b c) := by
  unfold Statement; revert b c; decide +kernel

theorem txDone (b : Bit) (c : BitVec 2) : Statement (.txDone b c) := by
  unfold Statement; revert b c; decide +kernel

theorem rxData (b : Bit) : Statement (.rxData b) := by
  unfold Statement; revert b; decide +kernel

theorem rxSkip (b : Bit) : Statement (.rxSkip b) := by
  unfold Statement; revert b; decide +kernel

theorem rxHdr (b : Bit) : Statement (.rxHdr b) := by
  unfold Statement; revert b; decide +kernel

theorem rxHdrbad (b : Bit) : Statement (.rxHdrbad b) := by
  unfold Statement; revert b; decide +kernel

theorem rxTrail (b : Bit) : Statement (.rxTrail b) := by
  unfold Statement; revert b; decide +kernel

theorem rxDone (b : Bit) : Statement (.rxDone b) := by
  unfold Statement; revert b; decide +kernel

theorem rxBadeof (b : Bit) : Statement (.rxBadeof b) := by
  unfold Statement; revert b; decide +kernel

theorem ctlBadStateRxc (b : Bit) : Statement (.ctlBadStateRxc b) := by
  unfold Statement; revert b; decide +kernel

theorem enqHalted (vf : BitVec 2) : Statement (.enqHalted vf) := by
  unfold Statement; revert vf; decide +kernel

theorem enqBad (f : Bit) : Statement (.enqBad f) := by
  unfold Statement; revert f; decide +kernel

theorem enqFull : Statement .enqFull := fun _ => rfl

theorem enq : Statement .enq := fun _ => rfl

theorem xcvWrmulti (n : Bit) (b : Bit) : Statement (.xcvWrmulti n b) := by
  unfold Statement; revert n b; decide +kernel

theorem xcvWrnone (b : Bit) : Statement (.xcvWrnone b) := by
  unfold Statement; revert b; decide +kernel

theorem xcvWr0 : Statement .xcvWr0 := fun _ => rfl

theorem xcvWr1 : Statement .xcvWr1 := fun _ => rfl

theorem xcvRdmulti (n : Bit) (k : BitVec 2) : Statement (.xcvRdmulti n k) := by
  unfold Statement; revert n k; decide +kernel

theorem xcvRdnone (k : BitVec 2) : Statement (.xcvRdnone k) := by
  unfold Statement; revert k; decide +kernel

theorem xcvRd0 : Statement .xcvRd0 := fun _ => rfl

theorem xcvRd1 : Statement .xcvRd1 := fun _ => rfl

theorem xcvRdbad (k : Bit) : Statement (.xcvRdbad k) := by
  unfold Statement; revert k; decide +kernel

theorem wiresInject : Statement .wiresInject := fun _ => rfl

theorem wiresNoinj : Statement .wiresNoinj := fun _ => rfl

theorem wiresIdle (mcpr : BitVec 4) : Statement (.wiresIdle mcpr) := by
  unfold Statement; revert mcpr; decide +kernel

theorem wiresNosamples (cpr : BitVec 3) : Statement (.wiresNosamples cpr) := by
  unfold Statement; revert cpr; decide +kernel

theorem wiresMismatch (pr : BitVec 2) : Statement (.wiresMismatch pr) := by
  unfold Statement; revert pr; decide +kernel

theorem wiresLowhigh (r : Bit) : Statement (.wiresLowhigh r) := by
  unfold Statement; revert r; decide +kernel

theorem wiresRange : Statement .wiresRange := fun _ => rfl

theorem wiresResolve : Statement .wiresResolve := fun _ => rfl

theorem wdgDormant (ast : BitVec 3) : Statement (.wdgDormant ast) := by
  unfold Statement; revert ast; decide +kernel

theorem wdgRequest (t : Bit) : Statement (.wdgRequest t) := by
  unfold Statement; revert t; decide +kernel

theorem wdgContBusy (t : Bit) : Statement (.wdgContBusy t) := by
  unfold Statement; revert t; decide +kernel

theorem wdgSleep (s : Bit) : Statement (.wdgSleep s) := by
  unfold Statement; revert s; decide +kernel

theorem wdgContIdle (s : Bit) : Statement (.wdgContIdle s) := by
  unfold Statement; revert s; decide +kernel

theorem fnStuff : Statement .fnStuff := fun _ => rfl

theorem fnDestuff : Statement .fnDestuff := fun _ => rfl

theorem fnFrameToBits : Statement .fnFrameToBits := fun _ => rfl

theorem fnBitsToFrame : Statement .fnBitsToFrame := fun _ => rfl

theorem fnFrameValid : Statement .fnFrameValid := fun _ => rfl

theorem fnArbEnd : Statement .fnArbEnd := fun _ => rfl

theorem fnDecodeWire : Statement .fnDecodeWire := fun _ => rfl

theorem fnReserved : Statement .fnReserved := fun _ => rfl

end Sys2Proof.Laws.RoundTrip
end

