-- ==== Sys2Proof/Laws/Sequencer.lean ====
section
/-! SUPPORT. What the end of a system step does to its lists, said once: the fan-in order (R53, log 5) and the delivery to the
nodes (R52). -/
namespace Sys2Proof.Machine

/-! ## Fan-in -/

theorem insertAt_perm {α : Type} (l : List α) (k : Nat) (x : α) : (insertAt l k x).Perm (x :: l) := by
  induction l generalizing k with
  | nil => exact .refl _
  | cons y ys ih =>
    cases k with
    | zero => exact .refl _
    | succ k => exact ((ih k).cons y).trans (.swap x y ys)

theorem insertAt_length_append {α : Type} (a b : List α) (x : α) : insertAt (a ++ b) a.length x = a ++ x :: b := by
  induction a with
  | nil => cases b <;> rfl
  | cons y ys ih => simp [insertAt, ih]

/-- Every code gives a permutation. -/
theorem arrange_perm {α : Type} (l : List α) (code : List Nat) : (arrange l code).Perm l := by
  induction l generalizing code with
  | nil => exact .refl _
  | cons x xs ih => exact (insertAt_perm _ _ _).trans ((ih _).cons x)

/-- The empty code leaves the order as it is. -/
theorem arrange_nil {α : Type} (l : List α) : arrange l [] = l := by
  induction l with
  | nil => rfl
  | cons x xs ih => simp only [arrange, List.tail_nil, List.headD_nil, ih]; cases xs <;> rfl

/-! ## Delivery to the nodes -/

theorem length_deliverNodes (sched : List Delivery) (t n : Nat) (low high : List Voltage) (l : List Node) :
    (deliverNodes sched t low high n l).length = l.length := by
  induction l generalizing n with
  | nil => rfl
  | cons x xs ih => simp [deliverNodes, ih]

theorem getElem?_deliverNodes (sched : List Delivery) (t n m : Nat) (low high : List Voltage) (l : List Node) :
    (deliverNodes sched t low high n l)[m]? = l[m]?.map fun nd => nd.deliver (framesFor sched t (n + m)) low high := by
  induction l generalizing n m with
  | nil => simp [deliverNodes]
  | cons x xs ih =>
    cases m with
    | zero => simp [deliverNodes]
    | succ m => simp only [deliverNodes, List.getElem?_cons_succ, ih, Nat.add_right_comm n 1 m, Nat.add_assoc]

end Sys2Proof.Machine
end

