-- ==== Sys2Proof/Laws/System.lean ====
section
/-! SUPPORT. What the frames, the report and the run of Machine/System.lean are, said once (R194, R213). -/
namespace Sys2Proof.Machine

/-! ## Frames and report -/

theorem mem_framesFrom (t k : Nat) (l : List Node) (e : EmittedFrame) :
    e ∈ framesFrom t k l ↔ e.step = t ∧ ∃ n nd, e.node = k + n ∧ l[n]? = some nd ∧ e.frame ∈ nd.inp.hostFrame := by
  induction l generalizing k with
  | nil => simp [framesFrom]
  | cons x xs ih =>
    simp only [framesFrom, List.mem_append, List.mem_map, ih]
    constructor
    · rintro (⟨f, hf, rfl⟩ | ⟨h, n, nd, h1, h2, h3⟩)
      · exact ⟨rfl, 0, x, rfl, rfl, hf⟩
      · exact ⟨h, n + 1, nd, by omega, h2, h3⟩
    · rintro ⟨h, n, nd, h1, h2, h3⟩
      cases n with
      | zero => left; simp at h2; subst h2; exact ⟨e.frame, h3, by cases e; simp_all⟩
      | succ n => right; exact ⟨h, n, nd, by omega, h2, h3⟩

/-- A frame of step t is one on the host's port of its node. -/
theorem State.mem_framesOf (s : State) (t : Nat) (e : EmittedFrame) :
    e ∈ s.framesOf t ↔ e.step = t ∧ ∃ nd, s.nodes[e.node]? = some nd ∧ e.frame ∈ nd.inp.hostFrame := by
  rw [State.framesOf, mem_framesFrom]
  constructor
  · rintro ⟨h, n, nd, h1, h2, h3⟩
    exact ⟨h, nd, by rw [h1]; simpa using h2, h3⟩
  · rintro ⟨h, nd, h2, h3⟩
    exact ⟨h, e.node, nd, by omega, h2, h3⟩

theorem faultsFrom_ne_nil (mk : Nat → AgentId) (k : Nat) (l : List FaultReg) (h : ∃ r ∈ l, r.latched = true) :
    faultsFrom mk k l ≠ [] := by
  induction l generalizing k with
  | nil => simp at h
  | cons x xs ih =>
    unfold faultsFrom
    split
    · simp
    · next hx =>
      obtain ⟨r, hr, hl⟩ := h
      rcases List.mem_cons.1 hr with rfl | hr
      · exact absurd hl hx
      · exact ih (k + 1) ⟨r, hr, hl⟩

/-- A latched fault is in the report. -/
theorem errorReport_ne_nil (s : State) (h : s.anyFault = true) : errorReport s ≠ [] := by
  simp only [State.anyFault, Bool.or_eq_true, List.any_eq_true] at h
  unfold errorReport
  rcases h with h | ⟨nd, hn, h | h⟩
  · simp [h]
  · simp [faultsFrom_ne_nil .controller 0 (s.nodes.map fun nd => nd.ctl.fault) ⟨_, List.mem_map.2 ⟨nd, hn, rfl⟩, h⟩]
  · simp [faultsFrom_ne_nil .transceiver 0 (s.nodes.map fun nd => nd.xcvFault) ⟨_, List.mem_map.2 ⟨nd, hn, rfl⟩, h⟩]

/-! ## System steps and runs, one step at a time -/

theorem systemSteps_succ (k : Nat) (s t : State) (h : systemStep s = .next t) : systemSteps (k + 1) s = systemSteps k t := by
  simp [systemSteps, h]

theorem runFrom_quiesced (fuel : Nat) (fs : List EmittedFrame) (s : State) (h : s.runQuiesced = true) :
    runFrom fuel fs s = .next ⟨some (.quiesced fs), s⟩ := by
  cases fuel <;> simp [runFrom, h]

theorem runFrom_faulted (fuel : Nat) (fs : List EmittedFrame) (s t : State) (h : s.runQuiesced = false)
    (ht : systemStep s = .next t) (hf : t.anyFault = true) :
    runFrom (fuel + 1) fs s = .next ⟨some (.faulted (errorReport t) s.t (fs ++ t.framesOf s.t)), t⟩ := by
  simp [runFrom, h, ht, hf]

theorem runFrom_goes_on (fuel : Nat) (fs : List EmittedFrame) (s t : State) (h : s.runQuiesced = false)
    (ht : systemStep s = .next t) (hf : t.anyFault = false) :
    runFrom (fuel + 1) fs s = runFrom fuel (fs ++ t.framesOf s.t) t := by
  simp [runFrom, h, ht, hf]

end Sys2Proof.Machine
end

