-- ==== Sys2Proof/Tests/Slice0.lean ====
section
/-! SUPPORT. The model's own tests: words written out from the patterns of 30_encoding, single steps against the vectors of
95_test_vectors, and for each obligation with hypotheses a state and operands that meet them. -/
namespace Sys2Proof.Tests
open Sys2Proof Sys2Proof.Machine

set_option Elab.async false

/-! ## Helpers -/

/-- Reset, changed so that the next step runs `i`. -/
def aimed (i : Instr) : State := aimAt i State.reset

/-- The node whose turn it is. -/
def turnNode (s : State) : Node := s.node?.getD Node.reset

/-- The outcome is a next state with the property. -/
def next (o : Result) (p : State → Bool) : Bool :=
  match o with
  | .next t => p t
  | _ => false

/-- Node 0 of a state. -/
def node0 (s : State) : Node := s.nodes.headD Node.reset

/-- Controller 0 in the given registers with the given bus bits and frames, at its turn, after reset. -/
def ctl0 (bits : List Bit) (frames : List Frame) (g : Controller → Controller) : State :=
  onNode0 (fun nd => { nd with ctl := g nd.ctl, inp := { nd.inp with ctlRxBit := bits, ctlEnq := frames } }) State.reset

/-- The frame of V-CD-40. -/
def f123 : Frame := ⟨0x123, 1, [0xA5]⟩

/-! ## WellFormed refuses ill-formed terms -/

theorem test_wellformed_refuses_multi_in_a_reserved_state :
    WellFormed (.ctlMulti 5#3 true false 0#3) = false ∧ WellFormed (.ctlMulti 6#3 true false 0#3) = false ∧
    WellFormed (.ctlMulti 7#3 false false 0#3) = false := by decide
theorem test_wellformed_refuses_nobit_in_a_reserved_state :
    WellFormed (.ctlNobit 5#3 false 0#3) = false ∧ WellFormed (.ctlNobit 6#3 false 0#3) = false ∧
    WellFormed (.ctlNobit 7#3 false 0#3) = false := by decide

/-! ## Words written out from 30_encoding R84, R85, R88 to R91 -/

theorem test_decode_ctl_rows_1_to_5 :
    decode (.ctl 0b1011011101#10) = some (.ctlHalted 0b011#3 0b01#2 true 0b101#3) ∧
    decode (.ctl 0b0101010011#10) = some (.ctlBadState5 0b01#2 false 0b011#3) ∧
    decode (.ctl 0b0110001000#10) = some (.ctlBadState67 false 0b00#2 true 0b000#3) ∧
    decode (.ctl 0b0111100000#10) = some (.ctlBadState67 true 0b10#2 false 0b000#3) ∧
    decode (.ctl 0b0100101000#10) = some (.ctlMulti 0b100#3 false true 0b000#3) ∧
    decode (.ctl 0b0010000000#10) = some (.ctlNobit 0b010#3 false 0b000#3) := by decide
theorem test_decode_ctl_rows_6_to_11 :
    decode (.ctl 0b0000010110#10) = some (.idleSof 0b110#3) ∧ decode (.ctl 0b0000011100#10) = some (.idleStart 0b00#2) ∧
    decode (.ctl 0b0000011010#10) = some (.idleStay 0b10#2) ∧ decode (.ctl 0b0001010000#10) = some (.waitSof 0b000#3) ∧
    decode (.ctl 0b0001011100#10) = some (.waitGo 0b00#2) ∧ decode (.ctl 0b0001011001#10) = some (.waitCount 0b01#2) := by
  decide
theorem test_decode_ctl_rows_12_to_17 :
    decode (.ctl 0b0010010100#10) = some (.arbMatch false false) ∧ decode (.ctl 0b0010011110#10) = some (.arbWon true false) ∧
    decode (.ctl 0b0010010010#10) = some (.arbLost 0b10#2) ∧ decode (.ctl 0b0010011000#10) = some (.arbBusfault 0b00#2) ∧
    decode (.ctl 0b0011011001#10) = some (.txNext true 0b01#2) ∧ decode (.ctl 0b0011010100#10) = some (.txDone false 0b00#2) := by
  decide
theorem test_decode_ctl_rows_18_to_25 :
    decode (.ctl 0b0100010000#10) = some (.rxData false) ∧ decode (.ctl 0b0100011001#10) = some (.rxSkip true) ∧
    decode (.ctl 0b0100010010#10) = some (.rxHdr false) ∧ decode (.ctl 0b0100011011#10) = some (.rxHdrbad true) ∧
    decode (.ctl 0b0100011100#10) = some (.rxTrail true) ∧ decode (.ctl 0b0100011101#10) = some (.rxDone true) ∧
    decode (.ctl 0b0100010110#10) = some (.rxBadeof false) ∧ decode (.ctl 0b0100011111#10) = some (.ctlBadStateRxc true) := by
  decide
theorem test_decode_host_and_transceiver :
    decode (.host 0b101#3) = some (.enqHalted 0b01#2) ∧ decode (.host 0b001#3) = some (.enqBad true) ∧
    decode (.host 0b011#3) = some .enqFull ∧ decode (.host 0b010#3) = some .enq ∧
    decode (.xw 0b110#3) = some (.xcvWrmulti true false) ∧ decode (.xw 0b001#3) = some (.xcvWrnone true) ∧
    decode (.xw 0b010#3) = some .xcvWr0 ∧ decode (.xw 0b011#3) = some .xcvWr1 ∧
    decode (.xr 0b1001#4) = some (.xcvRdmulti false 0b01#2) ∧ decode (.xr 0b0010#4) = some (.xcvRdnone 0b10#2) ∧
    decode (.xr 0b0100#4) = some .xcvRd0 ∧ decode (.xr 0b0101#4) = some .xcvRd1 ∧
    decode (.xr 0b0111#4) = some (.xcvRdbad true) := by decide
theorem test_decode_wires_and_watchdog :
    decode (.wi 0b1#1) = some .wiresInject ∧ decode (.wi 0b0#1) = some .wiresNoinj ∧
    decode (.wr 0b01010#5) = some (.wiresIdle 0b1010#4) ∧ decode (.wr 0b11100#5) = some (.wiresNosamples 0b100#3) ∧
    decode (.wr 0b10110#5) = some (.wiresMismatch 0b10#2) ∧ decode (.wr 0b10011#5) = some (.wiresLowhigh true) ∧
    decode (.wr 0b10001#5) = some .wiresRange ∧ decode (.wr 0b10000#5) = some .wiresResolve ∧
    decode (.wd 0b0110#4) = some (.wdgDormant 0b110#3) ∧ decode (.wd 0b1011#4) = some (.wdgRequest true) ∧
    decode (.wd 0b1000#4) = some (.wdgContBusy false) ∧ decode (.wd 0b1111#4) = some (.wdgSleep true) ∧
    decode (.wd 0b1100#4) = some (.wdgContIdle false) := by decide
theorem test_decode_codec_calls :
    decode (.fn 0b000#3) = some .fnStuff ∧ decode (.fn 0b001#3) = some .fnDestuff ∧
    decode (.fn 0b010#3) = some .fnFrameToBits ∧ decode (.fn 0b011#3) = some .fnBitsToFrame ∧
    decode (.fn 0b100#3) = some .fnFrameValid ∧ decode (.fn 0b101#3) = some .fnArbEnd ∧
    decode (.fn 0b110#3) = some .fnDecodeWire ∧ decode (.fn 0b111#3) = some .fnReserved := by decide

/-- The packing of log 13, and its refusals by name. -/
theorem test_decode_bytes :
    decodeBytes [0x00#8, 0x5C#8, 0xFF#8] = .ok (.waitGo 0, [0xFF#8]) ∧ decodeBytes [0x22#8] = .ok (.enq, []) ∧
    decodeBytes [] = .error .noBytes ∧ decodeBytes [0x01#8] = .error .truncated ∧
    decodeBytes [0x04#8, 0x00#8] = .error .strayBits ∧ decodeBytes [0x28#8] = .error .strayBits := by decide
theorem test_decode_table_words :
    decodeTableWord 16 0b0010010110 = some (.arbWon false false) ∧ decodeTableWord 8 0b10010 = some (.wiresLowhigh false) ∧
    decodeTableWord 8 0b010 = none := by decide

/-! ## Every row is reached -/

theorem test_every_controller_row_is_selected :
    ([.ctlHalted 2 1 false 0, .ctlBadState5 1 true 0, .ctlBadState67 true 0 false 0, .ctlMulti 4 false false 0, .ctlNobit 1 false 0,
      .idleSof 0, .idleStart 0, .idleStay 0, .waitSof 0, .waitGo 0, .waitCount 0, .arbMatch true false, .arbWon true false,
      .arbLost 0, .arbBusfault 0, .txNext true 0, .txDone false 0, .rxData true, .rxSkip false, .rxHdr true, .rxHdrbad false,
      .rxTrail true, .rxDone true, .rxBadeof true, .enqHalted 2, .enqBad false, .enqFull, .enq] : List Instr).all
      (fun i => selected (aimed i) == some i && next (step (aimed i)) fun _ => true) = true := by decide +kernel
theorem test_every_other_row_is_selected :
    ([.xcvWrmulti false false, .xcvWrnone false, .xcvWr0, .xcvWr1, .xcvRdmulti false 0, .xcvRdnone 0, .xcvRd0, .xcvRd1,
      .xcvRdbad false, .wiresInject, .wiresNoinj, .wiresIdle 0, .wiresNosamples 4, .wiresMismatch 0, .wiresLowhigh false,
      .wiresRange, .wiresResolve, .wdgDormant 4, .wdgRequest false, .wdgContBusy false, .wdgSleep true, .wdgContIdle false,
      .fnStuff, .fnDestuff, .fnFrameToBits, .fnBitsToFrame, .fnFrameValid, .fnArbEnd, .fnDecodeWire] : List Instr).all
      (fun i => selected (aimed i) == some i && next (step (aimed i)) fun _ => true) = true := by decide +kernel
theorem test_with_fetch_word_runs_the_word :
    selected (State.reset.withFetchWord 16 0b0001011100) = some (.waitGo 0) ∧
    selected (State.reset.withFetchWord 8 0b10001) = some .wiresRange := by decide +kernel

/-! ## Codec vectors (95_test_vectors section 2) -/

theorem test_stuff_V_CD_2_4_5_12 :
    stuff (ubits 5 0) 5 = ubits 6 0b000001 ∧ stuff (ubits 6 0) 5 = ubits 7 0b0000010 ∧
    stuff (ubits 10 0b0000011111) 5 = ubits 12 0b000001111101 ∧ stuff (ubits 2 0b01) 1 = ubits 4 0b0110 := by decide
theorem test_destuff_V_CD_21_23_24_26 :
    destuff (ubits 6 0) 5 = ubits 5 0 ∧ destuff (ubits 5 0) 5 = ubits 5 0 ∧
    destuff (ubits 9 0b111110000) 5 = ubits 8 0b11111000 ∧ destuff (ubits 4 0b0110) 1 = ubits 2 0b01 := by decide
theorem test_frame_to_bits_V_CD_40_46 :
    frameToBits f123 = ubits 34 0b0001001000110001101001011111111111 ∧
    frameToBits ⟨0x0F0, 2, [0x00, 0xFF]⟩ = ubits 35 0b00001111000001010000010000111110111 ++ ubits 10 0x3FF := by decide +kernel
theorem test_arb_end_V_CD_40_41_44 :
    arbEnd f123 = 12 ∧ arbEnd ⟨0, 0, []⟩ = 14 ∧ arbEnd ⟨0x100, 0, []⟩ = 13 := by decide
theorem test_bits_to_frame_V_CD_50_58_59_66 :
    bitsToFrame (ubits 16 0b1001) = .error .decodeInvalidFrame ∧ bitsToFrame (ubits 15 0) = .error .decodeInsufficientBits ∧
    bitsToFrame (ubits 24 0b001000000000) = .error .decodeInsufficientBits ∧
    bitsToFrame (ubits 16 0x8000) = .ok ⟨0, 0, []⟩ := by decide +kernel
theorem test_decode_wire_V_CD_63_69_73_74 :
    decodeWire (frameToBits ⟨0, 8, List.replicate 8 0x3C⟩) = .ok (⟨0, 8, List.replicate 8 0x3C⟩, 108) ∧
    decodeWire (frameToBits ⟨0, 0, []⟩ ++ [dominant]) = .ok (⟨0, 0, []⟩, 29) ∧
    decodeWire (ubits 19 0b1000001000001000001 ++ ubits 10 0x3FF) = .ok (⟨0, 0, []⟩, 29) ∧
    decodeWire (ubits 16 0b0101010101010000 ++ ubits 10 0b1111011111) = .error .decodeBadTrailer := by decide +kernel
theorem test_frame_valid_V_CD_80_82_86 :
    frameValid ⟨0x7FF, 8, List.replicate 8 0xFF⟩ = true ∧ frameValid ⟨0x800, 0, []⟩ = false ∧
    frameValid ⟨0, 1, [256]⟩ = false := by decide

/-! ## Controller vectors (section 4) -/

theorem test_idle_sof_V_CT_1 :
    next (step (ctl0 [dominant] [] id)) (fun t =>
      (node0 t).ctl.state == 4#3 && (node0 t).ctl.rx.data == [dominant] && (node0 t).ctl.rx.runLen == 1#3 &&
      (node0 t).out.report == [⟨0, 4#3⟩]) = true := by decide +kernel
theorem test_enqueue_V_CT_2 :
    next (step (ctl0 [recessive] [f123] id)) (fun t =>
      (node0 t).ctl.txq.map (fun e => (e.off, e.len, e.arbEnd)) == [(0#7, 34#7, 12#4)] &&
      selected t == some (.idleStart 0)) = true := by decide +kernel
theorem test_wait_go_V_CT_6 :
    next (step (ctl0 [recessive] [] fun c => { c with state := 1#3, wcnt := 10, txq := [newEntry f123] })) (fun t =>
      (node0 t).ctl.state == 2#3 && (node0 t).ctl.wcnt == 0#4 && (node0 t).out.txBit == [dominant] &&
      (node0 t).ctl.txq.map TxEntry.off == [1#7] && (node0 t).out.report == [⟨0, 2#3⟩]) = true := by decide +kernel
theorem test_wait_sof_V_CT_7 :
    next (step (ctl0 [dominant] [] fun c => { c with state := 1#3, wcnt := 7, txq := [newEntry f123] })) (fun t =>
      (node0 t).ctl.state == 4#3 && (node0 t).ctl.wcnt == 0#4 && (node0 t).ctl.txq == [newEntry f123]) = true := by decide +kernel
theorem test_arb_match_V_CT_8 :
    next (step (ctl0 [dominant] [] (inState 2#3 [entryAt f123 1]))) (fun t =>
      (node0 t).out.txBit == [dominant] && (node0 t).ctl.txq.map TxEntry.off == [2#7]) = true := by decide +kernel
theorem test_arb_won_V_CT_9 :
    next (step (ctl0 [recessive] [] (inState 2#3 [entryAt f123 12]))) (fun t =>
      (node0 t).ctl.state == 3#3 && (node0 t).out.txBit == [dominant] && (node0 t).ctl.txq.map TxEntry.off == [13#7] &&
      (node0 t).out.report == [⟨0, 3#3⟩]) = true := by decide +kernel
theorem test_arb_lost_V_CT_10 :
    next (step (ctl0 [dominant] [] (inState 2#3 [entryAt ⟨0x7FF, 0, []⟩ 2]))) (fun t =>
      (node0 t).ctl.state == 4#3 && (node0 t).ctl.txq == [newEntry ⟨0x7FF, 0, []⟩] &&
      (node0 t).ctl.rx.data == [dominant, dominant] && (node0 t).ctl.rx.runLen == 2#3 && (node0 t).out.txBit == [] &&
      (node0 t).out.report == [⟨0, 4#3⟩]) = true := by decide +kernel
theorem test_arb_busfault_V_CT_11 :
    next (step (ctl0 [recessive] [] (inState 2#3 [entryAt ⟨0x7FF, 0, []⟩ 1]))) (fun t =>
      (node0 t).ctl.fault == ⟨6#4, 0#8⟩ && (node0 t).out.txBit == [] && (node0 t).out.report == []) = true := by decide +kernel
theorem test_tx_next_V_CT_12 :
    next (step (ctl0 [dominant] [] (inState 3#3 [entryAt f123 13]))) (fun t =>
      (node0 t).out.txBit == [dominant] && (node0 t).ctl.txq.map TxEntry.off == [14#7]) = true := by decide +kernel
theorem test_tx_done_V_CT_13 :
    next (step (ctl0 [recessive] [] (inState 3#3 [entryAt f123 34]))) (fun t =>
      (node0 t).ctl.state == 0#3 && (node0 t).ctl.txq == [] && (node0 t).out.txBit == [] && (node0 t).out.frameOut == [] &&
      (node0 t).out.report == [⟨0, 0#3⟩]) = true := by decide +kernel
theorem test_enq_bad_V_CT_15 :
    next (step (ctl0 [] [⟨0x001, 2, [0x01]⟩] id)) (fun t => (node0 t).ctl.fault == ⟨12#4, 0#8⟩ && t.seq.node == 1) = true := by
  decide +kernel
theorem test_multi_V_CT_18 :
    next (step (ctl0 [recessive, recessive] [] id)) (fun t => (node0 t).ctl.fault == ⟨11#4, 2#8⟩) = true := by decide +kernel
/-- The fifth equal data bit makes a stuff bit due (42_controller R167, its example). -/
theorem test_rx_data_example :
    next (step (ctl0 [dominant] [] (inReceive ⟨ubits 4 0, false, 4, false, false, 0, 0, false⟩))) (fun t =>
      (node0 t).ctl.rx == ⟨ubits 5 0, false, 5, true, false, 0, 0, false⟩) = true := by decide +kernel
/-- The header of R169's example gives DLC 1. -/
theorem test_rx_hdr_example :
    next (step (ctl0 [recessive] [] (inReceive ⟨ubits 15 0, false, 4, false, false, 0, 0, false⟩))) (fun t =>
      (node0 t).ctl.rx.hdr && (node0 t).ctl.rx.dlc == 1#4 && (node0 t).ctl.rx.data.length == 16) = true := by decide +kernel
/-- R170's example: info 9, STATE stays Receive, the bits are kept. -/
theorem test_rx_hdrbad_example :
    next (step (ctl0 [recessive] [] (inReceive ⟨ubits 15 0b010101010101100, false, 2, false, false, 0, 0, false⟩))) (fun t =>
      (node0 t).ctl.fault == ⟨8#4, 9#8⟩ && (node0 t).ctl.state == 4#3 && (node0 t).ctl.rx.data.length == 16) = true := by
  decide +kernel

/-! ## Physical layer and watchdog vectors (sections 3 and 6) -/

theorem test_drive_V_PH_2_3 :
    next (step (aimed .xcvWr0)) (fun t => (node0 t).out.canLow == [15] && (node0 t).out.canHigh == [37]) = true ∧
    next (step (aimed .xcvWr1)) (fun t => (node0 t).out.canLow == [25] && (node0 t).out.canHigh == [25]) = true := by
  decide +kernel
theorem test_write_fault_skips_the_read_path_V_PH_4 :
    next (step (aimWrite [dominant, recessive] State.reset)) (fun t =>
      (node0 t).xcvFault == ⟨11#4, 2#8⟩ && t.seq.stage == .xw && t.seq.node == 1) = true := by decide +kernel
theorem test_read_V_PH_6_7_8 :
    next (step (aimRead [15] [37] State.reset)) (fun t => (node0 t).out.rxBit == [dominant]) = true ∧
    next (step (aimRead [25] [25] State.reset)) (fun t => (node0 t).out.rxBit == [recessive]) = true ∧
    next (step (aimRead [15] [25] State.reset)) (fun t => (node0 t).xcvFault == ⟨10#4, 0#8⟩) = true := by decide +kernel
theorem test_resolve_V_PH_14 :
    next (step (aimResolve [15, 25] [37, 25] State.reset)) (fun t => t.wires.busLow == [15] && t.wires.busHigh == [37]) = true := by
  decide +kernel
theorem test_lowhigh_least_index_V_PH_20 :
    next (step (aimResolve [25, 37] [25, 15] State.reset)) (fun t => t.wires.fault == ⟨4#4, 1#8⟩) = true := by decide +kernel
theorem test_one_line_empty_V_PH_17 :
    next (step (aimResolve [15] [] State.reset)) (fun t => t.wires.fault == ⟨2#4, 0#8⟩) = true := by decide +kernel
theorem test_range_V_PH_21 :
    next (step (aimResolve [60] [60] State.reset)) (fun t => t.wires.fault == ⟨5#4, 0#8⟩) = true := by decide +kernel
/-- V-PH-16: one sample, INJ becomes 2. -/
theorem test_inject_V_PH_16 :
    next (exec .wiresInject { State.reset with wires := { State.reset.wires with inj := 2, wReq := [.token] } }) (fun t =>
      t.wires.lows == [25] && t.wires.highs == [25] && t.wires.inj == 2) = true := by decide +kernel
/-- R201's example: T_START = 3, the fourth silent step. -/
theorem test_watchdog_request :
    next (step (aimWatch 1#3 3 true [] State.reset)) (fun t => t.t == 1 && t.wires.wReq == [.token] && t.wd.idle == 0) = true := by
  decide +kernel
/-- R203's example: T_STOP = 30. -/
theorem test_watchdog_sleep :
    next (step (aimWatch 0#3 30 true [] State.reset)) (fun t => !t.wd.active && t.wd.idle == 31) = true := by decide +kernel

/-! ## Witnesses: for each obligation with hypotheses, states and operands that meet them -/

/-- A state at a controller's turn with its node. -/
def CtlWitness (s : State) (p : Node → Prop) : Prop := CtlTurn s (turnNode s) ∧ p (turnNode s)

/-- The entry at the head of the queue of the node whose turn it is. -/
def headOf (nd : Node) : TxEntry := nd.ctl.txq.headD (newEntry f123)

theorem witness_DecodeOfEncodedBytesIsTheOperation :
    WellFormed (.ctlMulti 4#3 true true 7#3) = true ∧ WellFormed (.ctlNobit 4#3 true 7#3) = true ∧ WellFormed .fnReserved = true := by
  decide
theorem witness_StepRunsTheSelectedOperation :
    (∃ sel i t, fetch (aimed (.txNext true 0)) = .ok sel ∧ decode sel = some i ∧ exec i (aimed (.txNext true 0)) = .next t) ∧
    (∃ sel i f, fetch (ctl0 [recessive] [] fun c => { c with state := 1#3, wcnt := 10 }) = .ok sel ∧ decode sel = some i ∧
      exec i (ctl0 [recessive] [] fun c => { c with state := 1#3, wcnt := 10 }) = .fault f) ∧
    (∃ sel i r, fetch (aimed .fnReserved) = .ok sel ∧ decode sel = some i ∧ exec i (aimed .fnReserved) = .refused r) :=
  ⟨⟨_, _, _, rfl, rfl, rfl⟩, ⟨_, _, _, rfl, rfl, rfl⟩, ⟨_, _, _, rfl, rfl, rfl⟩⟩
theorem witness_ResetMeetsTheInvariant : Config.default.legal = true := by decide

/-- A check of the invariant that evaluates. -/
def invCheck (s : State) : Bool :=
  decide s.turnWf &&
  (List.range s.nodes.length).all (fun m => match s.nodes[m]? with
    | none => true
    | some nd => s.seq.halted || !nd.ctl.fault.latched || decide (s.seq.stage ≠ .ctl) || decide (m < s.seq.node) ||
        (decide (m = s.seq.node) && s.seq.ended && decide (s.seq.enqIdx < nd.inp.ctlEnq.length))) &&
  s.nodes.all fun nd => decide nd.ctl.stateWf && decide (nd.ctl.queueWf s.cfg) && (nd.ctl.fault.latched || decide nd.ctl.rxWf)

theorem inv_of_check (s : State) (h : invCheck s = true) : s.Inv := by
  simp only [invCheck, Bool.and_eq_true, List.all_eq_true, decide_eq_true_eq] at h
  obtain ⟨⟨h1, h2⟩, h3⟩ := h
  refine ⟨h1, ?_, ?_⟩
  · intro hh m nd hm hl
    have h4 := h2 m (List.mem_range.mpr (List.getElem?_eq_some_iff.mp hm).1)
    simp only [hm, hh, hl, Bool.or_eq_true, Bool.and_eq_true, decide_eq_true_eq] at h4
    rcases h4 with ((h4 | h4) | h4) | ⟨⟨h4, h5⟩, h6⟩
    · simp at h4
    · exact .inl h4
    · exact .inr (.inl h4)
    · exact .inr (.inr ⟨h4, h5, h6⟩)
  · intro nd hn
    obtain ⟨⟨h4, h5⟩, h6⟩ := h3 nd hn
    refine ⟨h4, h5, fun hf => ?_⟩
    rw [hf, Bool.false_or] at h6
    exact of_decide_eq_true h6

/-- A sender in the middle of its arbitration field, and a receiver in its trailer. -/
theorem witness_EveryStepKeepsTheInvariant :
    (aimed (.arbWon true false)).Inv ∧ (∃ t, step (aimed (.arbWon true false)) = .next t) ∧ State.reset.Inv :=
  ⟨inv_of_check _ (by decide +kernel), ⟨_, rfl⟩, inv_of_check _ (by decide +kernel)⟩
theorem witness_NoStepStopsUnderTheInvariant :
    (aimed (.txDone true 0)).Inv ∧ (aimed (.txDone true 0)).fn.call = none :=
  ⟨inv_of_check _ (by decide +kernel), rfl⟩
theorem witness_SystemStepReachesTheNextBoundary :
    (aimed (.arbWon true false)).Inv ∧ (aimed (.arbWon true false)).fn.call = none ∧
    (aimed (.arbWon true false)).atBoundary = true ∧ (aimed (.ctlHalted 0 0 false 0)).Inv ∧
    (aimed (.ctlHalted 0 0 false 0)).atBoundary = true :=
  ⟨inv_of_check _ (by decide +kernel), rfl, rfl, inv_of_check _ (by decide +kernel), rfl⟩
/-- A step with an enqueue that faults, and a halted step with two frames. -/
theorem witness_EveryAgentHasItsTurnInASystemStep :
    (let s := ctl0 [] [⟨0x800, 0, []⟩] id;
      s.Inv ∧ s.fn.call = none ∧ s.atBoundary = true ∧ s.seq.halted = false ∧ (∃ t, systemStep s = .next t) ∧
      operationsOf (systemOperations s) 0 [.host, .ctl] = [(0, .host)] ∧ (∃ nd, s.nodes[0]? = some nd)) ∧
    (let s := aimed (.ctlHalted 0 0 false 0);
      s.Inv ∧ s.fn.call = none ∧ s.atBoundary = true ∧ s.seq.halted = true ∧ (∃ t, systemStep s = .next t) ∧
      (∃ nd, s.nodes[0]? = some nd)) :=
  ⟨⟨inv_of_check _ (by decide +kernel), rfl, rfl, rfl, ⟨_, rfl⟩, by decide +kernel, ⟨_, rfl⟩⟩,
    inv_of_check _ (by decide +kernel), rfl, rfl, rfl, ⟨_, rfl⟩, ⟨_, rfl⟩⟩
/-- The info at its bound, and a record latched before. -/
theorem witness_RaiseLatchesTheFirstFault :
    FaultReg.clear.code = 0 ∧ (FaultReg.clear.raise .multipleInputs 256) = ⟨11#4, 255#8⟩ ∧ (⟨6#4, 3#8⟩ : FaultReg).code ≠ 0 := by
  decide
/-- A latched controller, transceiver and wires record, and a step. -/
def faulted : State :=
  let s := withHalt State.reset
  { s with
    nodes := s.nodes.map fun nd => { nd with ctl := { nd.ctl with fault := ⟨6#4, 3#8⟩ }, xcvFault := ⟨10#4, 0#8⟩ }
    wires := { s.wires with fault := ⟨5#4, 0#8⟩ } }
theorem witness_NoStepChangesALatchedFault :
    (∃ t, step faulted = .next t) ∧ (node0 faulted).ctl.fault.code ≠ 0 ∧ (node0 faulted).xcvFault.code ≠ 0 ∧
    faulted.wires.fault.code ≠ 0 := ⟨⟨_, rfl⟩, by decide, by decide, by decide⟩
theorem witness_HaltedStepFreezesTheRegisters :
    (faulted.fn.call = none ∧ faulted.seq.halted = true ∧ faulted.seq.stage = .ctl ∧ faulted.seq.node < faulted.nodes.length) ∧
    (∃ t, step (aimed (.wdgDormant 4)) = .next t ∧ t.t ≠ (aimed (.wdgDormant 4)).t) ∧
    (enqFrame (aimed (.enqHalted 2)) (turnNode (aimed (.enqHalted 2))) = some f123 ∧ (aimed (.enqHalted 2)).seq.halted = true) :=
  ⟨by decide, ⟨_, rfl, by decide⟩, by decide⟩
theorem witness_ReservedStateRaisesIllegalState :
    CtlWitness (aimed (.ctlBadState5 1 true 0)) (fun nd => nd.ctl.state = 5#3) ∧
    CtlWitness (aimed (.ctlBadState67 false 0 true 0)) (fun nd => nd.ctl.state = 6#3) ∧
    CtlWitness (aimed (.ctlBadState67 true 2 true 0)) (fun nd => nd.ctl.state = 7#3) := by
  simp only [CtlWitness]; decide +kernel
theorem witness_NoBusBitAndSeveralBusBits :
    CtlWitness (aimed (.ctlMulti 4 false false 0)) (fun nd => nd.ctl.state.toNat ≤ 4 ∧ 2 ≤ nd.inp.ctlRxBit.length) ∧
    CtlWitness (aimed (.ctlNobit 4 false 0)) (fun nd => nd.ctl.state.toNat ≤ 4 ∧ nd.inp.ctlRxBit = []) := by
  simp only [CtlWitness]; decide +kernel
/-- A controller that took a bit; one that faulted; one without input; a halted one. -/
theorem witness_StateReportFollowsAConsumedInput :
    ((∃ w i t nd, fetch (aimed (.idleStay 0)) = .ok (.ctl w) ∧ decode (.ctl w) = some i ∧ exec i (aimed (.idleStay 0)) = .next t ∧
      t.node? = some nd ∧ t.seq.halted = false ∧ t.seq.ended = false ∧ nd.inp.ctlRxBit ≠ []) ∧
    (∃ w i t nd, fetch (aimed (.ctlMulti 0 false false 0)) = .ok (.ctl w) ∧ decode (.ctl w) = some i ∧
      exec i (aimed (.ctlMulti 0 false false 0)) = .next t ∧ t.node? = some nd ∧ t.seq.ended = true)) ∧
    (∃ w i t nd, fetch (aimed (.ctlNobit 0 false 0)) = .ok (.ctl w) ∧ decode (.ctl w) = some i ∧
      exec i (aimed (.ctlNobit 0 false 0)) = .next t ∧ t.node? = some nd ∧ nd.inp.ctlEnq = [] ∧ nd.inp.ctlRxBit = []) ∧
    (∃ w i t nd, fetch (aimed (.ctlHalted 0 1 true 0)) = .ok (.ctl w) ∧ decode (.ctl w) = some i ∧
      exec i (aimed (.ctlHalted 0 1 true 0)) = .next t ∧ t.node? = some nd ∧ t.seq.halted = true) :=
  ⟨⟨⟨_, _, _, _, rfl, rfl, rfl, rfl, rfl, rfl, by decide⟩, ⟨_, _, _, _, rfl, rfl, rfl, rfl, rfl⟩⟩,
    ⟨_, _, _, _, rfl, rfl, rfl, rfl, rfl, rfl⟩, ⟨_, _, _, _, rfl, rfl, rfl, rfl, rfl⟩⟩
theorem witness_IdleDominantBitStartsReception :
    CtlWitness (aimed (.idleSof 0)) (fun nd => nd.ctl.state = CtlState.idle ∧ nd.inp.ctlRxBit = [dominant]) := by
  simp only [CtlWitness]; decide +kernel
theorem witness_IdleRecessiveBitWaitsOrStays :
    CtlWitness (aimed (.idleStart 0)) (fun nd => nd.ctl.state = CtlState.idle ∧ nd.inp.ctlRxBit = [recessive] ∧ nd.ctl.txq ≠ []) ∧
    CtlWitness (aimed (.idleStay 0)) (fun nd => nd.ctl.state = CtlState.idle ∧ nd.inp.ctlRxBit = [recessive] ∧ nd.ctl.txq = []) ∧
    (aimed (.idleStay 0)).seq.ended = false := by
  simp only [CtlWitness]; decide +kernel
theorem witness_WaitDominantBitStartsReception :
    CtlWitness (aimed (.waitSof 0)) (fun nd => nd.ctl.state = CtlState.wait ∧ nd.inp.ctlRxBit = [dominant]) := by
  simp only [CtlWitness]; decide +kernel
/-- WCNT = 9 is the last value that counts on. -/
theorem witness_WaitCountsRecessiveBits :
    CtlWitness (ctl0 [recessive] [] fun c => { c with state := 1#3, wcnt := 9 })
      (fun nd => nd.ctl.state = CtlState.wait ∧ nd.inp.ctlRxBit = [recessive] ∧ nd.ctl.wcnt.toNat + 1 ≤ 10) := by
  simp only [CtlWitness]; decide +kernel
theorem witness_EleventhRecessiveBitStartsArbitration :
    CtlWitness (aimed (.waitGo 0)) (fun nd => nd.ctl.state = CtlState.wait ∧ nd.inp.ctlRxBit = [recessive] ∧
      10 < nd.ctl.wcnt.toNat + 1 ∧ nd.ctl.txq = [newEntry f123] ∧ (newEntry f123).stream[(newEntry f123).off.toNat]? = some dominant ∧
      (newEntry f123).wf ∧ (newEntry f123).off = 0) := by
  simp only [CtlWitness]; decide +kernel
theorem witness_ArbitrationMatchWritesTheNextBit :
    CtlWitness (aimed (.arbMatch false false)) (fun nd => nd.ctl.state = CtlState.arbitration ∧ nd.ctl.txq = [entryAt f123 1] ∧
      nd.inp.ctlRxBit = [dominant] ∧ 1 ≤ (entryAt f123 1).off.toNat ∧
      (entryAt f123 1).stream[(entryAt f123 1).off.toNat]? = some dominant ∧
      (entryAt f123 1).stream[(entryAt f123 1).off.toNat - 1]? = some dominant ∧
      (entryAt f123 1).off.toNat ≠ (entryAt f123 1).arbEnd.toNat) := by
  simp only [CtlWitness]; decide +kernel
theorem witness_ArbitrationWonEntersTransmit :
    CtlWitness (aimed (.arbWon true false)) (fun nd => nd.ctl.state = CtlState.arbitration ∧ nd.ctl.txq = [entryAt f123 12] ∧
      nd.inp.ctlRxBit = [recessive] ∧ 1 ≤ (entryAt f123 12).off.toNat ∧
      (entryAt f123 12).stream[(entryAt f123 12).off.toNat]? = some dominant ∧
      (entryAt f123 12).stream[(entryAt f123 12).off.toNat - 1]? = some recessive ∧
      (entryAt f123 12).off.toNat = (entryAt f123 12).arbEnd.toNat ∧ (entryAt f123 12).wf) := by
  simp only [CtlWitness]; decide +kernel
theorem witness_ArbitrationLostBecomesReceiver :
    CtlWitness (aimed (.arbLost 0)) (fun nd => nd.ctl.state = CtlState.arbitration ∧ nd.ctl.txq = [entryAt f123 4] ∧
      nd.inp.ctlRxBit = [dominant] ∧ 1 ≤ (entryAt f123 4).off.toNat ∧
      (entryAt f123 4).stream[(entryAt f123 4).off.toNat - 1]? = some recessive) := by
  simp only [CtlWitness]; decide +kernel
theorem witness_RecessiveEchoOfDominantBitIsBusFault :
    CtlWitness (aimed (.arbBusfault 0)) (fun nd => nd.ctl.state = CtlState.arbitration ∧ nd.ctl.txq = [entryAt f123 1] ∧
      nd.inp.ctlRxBit = [recessive] ∧ 1 ≤ (entryAt f123 1).off.toNat ∧
      (entryAt f123 1).stream[(entryAt f123 1).off.toNat - 1]? = some dominant) := by
  simp only [CtlWitness]; decide +kernel
/-- The last bit of the stream. -/
theorem witness_TransmitWritesTheNextBit :
    CtlWitness (ctl0 [dominant] [] (inState 3#3 [entryAt f123 33])) (fun nd => nd.ctl.state = CtlState.transmit ∧
      nd.ctl.txq = [entryAt f123 33] ∧ nd.inp.ctlRxBit = [dominant] ∧
      (entryAt f123 33).stream[(entryAt f123 33).off.toNat]? = some recessive ∧ (entryAt f123 33).off ≠ (entryAt f123 33).len) := by
  simp only [CtlWitness]; decide +kernel
theorem witness_TransmitDonePopsTheHead :
    CtlWitness (aimed (.txDone true 0)) (fun nd => nd.ctl.state = CtlState.transmit ∧ nd.ctl.txq = [entryAt f123 34] ∧
      nd.inp.ctlRxBit = [recessive] ∧ (entryAt f123 34).off = (entryAt f123 34).len) := by
  simp only [CtlWitness]; decide +kernel
theorem witness_OperationsOutsideTheirDomain :
    (∃ nd, State.reset.node? = some nd ∧ nd.ctl.txq = []) ∧
    (∃ nd, (aimed (.txDone true 0)).node? = some nd ∧ nd.ctl.txq = [entryAt f123 34] ∧
      (entryAt f123 34).stream[(entryAt f123 34).off.toNat]? = none) ∧
    (∃ nd, (aimed (.idleStart 0)).node? = some nd ∧ nd.ctl.txq = [newEntry f123] ∧ (newEntry f123).off = 0) ∧
    (∃ nd, State.reset.node? = some nd ∧ enqFrame State.reset nd = none) ∧
    (∃ nd, (ctl0 [] [⟨0x800, 0, []⟩] id).node? = some nd ∧ enqFrame (ctl0 [] [⟨0x800, 0, []⟩] id) nd = some ⟨0x800, 0, []⟩) ∧
    (∃ nd e, State.reset.node? = some nd ∧ bitsToFrame nd.ctl.rx.data = .error e) ∧ State.reset.wires.lows = [] :=
  ⟨⟨_, rfl, rfl⟩, ⟨_, rfl, rfl, rfl⟩, ⟨_, rfl, rfl, rfl⟩, ⟨_, rfl, rfl⟩, ⟨_, rfl, rfl⟩, ⟨_, _, rfl, rfl⟩, rfl⟩
theorem witness_QueueAndWrittenBitChangeOnlyByTheirRows :
    (∃ t nd, exec (.txDone true 0) (aimed (.txDone true 0)) = .next t ∧ (aimed (.txDone true 0)).nodes[0]? = some nd) ∧
    (∃ t nd, exec (.waitGo 0) (aimed (.waitGo 0)) = .next t ∧ (aimed (.waitGo 0)).nodes[0]? = some nd) :=
  ⟨⟨_, _, rfl, rfl⟩, ⟨_, _, rfl, rfl⟩⟩
/-- One receiver for each class: a stuff bit, a data bit, the header with DLC 8 and 9, the 9th and the 10th trailer bit. -/
theorem witness_ReceiveClassSelectsTheReceiveRow :
    CtlWitness (aimed (.rxSkip true)) (fun nd => nd.ctl.state = CtlState.receive ∧ nd.inp.ctlRxBit = [recessive] ∧
      nd.ctl.rx.skip = true) ∧
    CtlWitness (aimed (.rxData true)) (fun nd => nd.ctl.state = CtlState.receive ∧ nd.ctl.rx.skip = false ∧ nd.ctl.rx.hdr = false ∧
      nd.ctl.rx.data.length + 1 ≠ 16) ∧
    CtlWitness (ctl0 [dominant] [] (inReceive (headerAssembler [true, false, false]))) (fun nd => nd.ctl.rx.skip = false ∧
      nd.ctl.rx.hdr = false ∧ nd.ctl.rx.data.length + 1 = 16 ∧ uval ((nd.ctl.rx.data.drop 12).take 3 ++ [dominant]) ≤ 8) ∧
    CtlWitness (ctl0 [recessive] [] (inReceive (headerAssembler [true, false, false]))) (fun nd => nd.ctl.rx.skip = false ∧
      nd.ctl.rx.hdr = false ∧ nd.ctl.rx.data.length + 1 = 16 ∧ 8 < uval ((nd.ctl.rx.data.drop 12).take 3 ++ [recessive])) ∧
    CtlWitness (ctl0 [dominant] [] (inReceive (trailerAssembler 8 false))) (fun nd => nd.ctl.rx.skip = false ∧
      nd.ctl.rx.hdr = true ∧ 16 + 8 * nd.ctl.rx.dlc.toNat ≤ nd.ctl.rx.data.length ∧ nd.ctl.rx.trl.toNat + 1 < 10) ∧
    CtlWitness (aimed (.rxDone true)) (fun nd => nd.ctl.rx.skip = false ∧ nd.ctl.rx.hdr = true ∧
      16 + 8 * nd.ctl.rx.dlc.toNat ≤ nd.ctl.rx.data.length ∧ 10 ≤ nd.ctl.rx.trl.toNat + 1 ∧ nd.ctl.rx.trlBad = false) ∧
    CtlWitness (aimed (.rxBadeof true)) (fun nd => nd.ctl.rx.skip = false ∧ nd.ctl.rx.hdr = true ∧
      10 ≤ nd.ctl.rx.trl.toNat + 1 ∧ nd.ctl.rx.trlBad = true) := by
  simp only [CtlWitness]
  refine ⟨?_, ?_, ?_, ?_, ?_, ?_, ?_⟩ <;> decide +kernel
/-- A run of 4 that grows to 5, and a new run. -/
theorem witness_ReceivedBitsUpdateTheAssembler :
    (∃ nd, (ctl0 [dominant] [] (inReceive ⟨ubits 4 0, false, 4, false, false, 0, 0, false⟩)).node? = some nd ∧
      5#3 = (if 0 < nd.ctl.rx.runLen.toNat ∧ dominant = nd.ctl.rx.runVal then nd.ctl.rx.runLen + 1 else 1)) ∧
    (∃ nd, (aimed (.rxData true)).node? = some nd ∧
      1#3 = (if 0 < nd.ctl.rx.runLen.toNat ∧ recessive = nd.ctl.rx.runVal then nd.ctl.rx.runLen + 1 else 1)) :=
  ⟨⟨_, rfl, rfl⟩, ⟨_, rfl, rfl⟩⟩
theorem witness_ReceiveDecodeFaultsKeepTheBuffer :
    (∃ nd, (aimed (.rxHdrbad true)).node? = some nd ∧
      1#3 = (if 0 < nd.ctl.rx.runLen.toNat ∧ recessive = nd.ctl.rx.runVal then nd.ctl.rx.runLen + 1 else 1)) ∧
    (∃ nd, (aimed (.rxBadeof true)).node? = some nd) := ⟨⟨_, rfl, rfl⟩, ⟨_, rfl⟩⟩
/-- A complete assembler of DLC 0, in order, at its last trailer bit. -/
theorem witness_CompleteReceptionEmitsTheFrame :
    (∃ nd f, (aimed (.rxDone true)).node? = some nd ∧ bitsToFrame nd.ctl.rx.data = .ok f) ∧
    (let a : Assembler := ⟨ubits 16 0b0101010101010000, false, 4, false, true, 0, 9, false⟩; a.wf ∧ a.rxClass recessive = .done) :=
  ⟨⟨_, _, rfl, rfl⟩, by decide +kernel⟩
theorem witness_PreloadEqualsListeningSinceTheSof : (ubits 14 0b00000100000100).length ≤ 14 ∧
    (ubits 14 0b00000100000100)[13]? = some dominant := by decide
/-- A frame with all bounds met into a queue one short of its depth; two frames in one step. -/
theorem witness_EnqueuePushesTheEncodedFrame :
    EnqTurn (ctl0 [] [⟨0x7FF, 8, List.replicate 8 255⟩, f123] id) (turnNode (ctl0 [] [⟨0x7FF, 8, List.replicate 8 255⟩, f123] id))
      ⟨0x7FF, 8, List.replicate 8 255⟩ ∧ frameValid ⟨0x7FF, 8, List.replicate 8 255⟩ = true ∧
    ∀ d, (ctl0 [] [⟨0x7FF, 8, List.replicate 8 255⟩, f123] id).cfg.txqDepth = some d →
      (turnNode (ctl0 [] [⟨0x7FF, 8, List.replicate 8 255⟩, f123] id)).ctl.txq.length ≠ d :=
  ⟨by decide +kernel, by decide, fun d h => by cases h⟩
theorem witness_BadAndOverflowingEnqueuesFault :
    (EnqTurn (aimed (.enqBad false)) (turnNode (aimed (.enqBad false))) ⟨0x800, 0, []⟩ ∧ frameValid ⟨0x800, 0, []⟩ = false) ∧
    (EnqTurn (aimed .enqFull) (turnNode (aimed .enqFull)) f123 ∧ frameValid f123 = true ∧
      (aimed .enqFull).cfg.txqDepth = some 1 ∧ (turnNode (aimed .enqFull)).ctl.txq.length = 1) ∧
    (EnqTurn (aimed .enq) (turnNode (aimed .enq)) f123 ∧ (aimed .enq).cfg.txqDepth = none) := by decide +kernel
theorem witness_TransceiverDrivesThePairOfTheBit :
    (WriteTurn (aimed .xcvWr0) (turnNode (aimed .xcvWr0)) ∧ (turnNode (aimed .xcvWr0)).inp.xcvTxBit = [dominant]) ∧
    (WriteTurn (aimed .xcvWr1) (turnNode (aimed .xcvWr1)) ∧ (turnNode (aimed .xcvWr1)).inp.xcvTxBit = [recessive]) ∧
    (WriteTurn (aimed (.xcvWrnone false)) (turnNode (aimed (.xcvWrnone false))) ∧
      (turnNode (aimed (.xcvWrnone false))).inp.xcvTxBit = []) := by decide +kernel
theorem witness_TransceiverReadsTheBitOfThePair :
    (ReadTurn (aimed .xcvRd0) (turnNode (aimed .xcvRd0)) ∧ (aimed .xcvRd0).cfg.legal = true ∧
      (turnNode (aimed .xcvRd0)).inp.xcvBusLow = [(aimed .xcvRd0).cfg.vDomLow] ∧
      (turnNode (aimed .xcvRd0)).inp.xcvBusHigh = [(aimed .xcvRd0).cfg.vDomHigh]) ∧
    (ReadTurn (aimed .xcvRd1) (turnNode (aimed .xcvRd1)) ∧ (turnNode (aimed .xcvRd1)).inp.xcvBusLow = [(aimed .xcvRd1).cfg.vRec] ∧
      (turnNode (aimed .xcvRd1)).inp.xcvBusHigh = [(aimed .xcvRd1).cfg.vRec]) ∧
    (ReadTurn (aimed (.xcvRdnone 0)) (turnNode (aimed (.xcvRdnone 0))) ∧ (turnNode (aimed (.xcvRdnone 0))).inp.xcvBusLow = [] ∧
      (turnNode (aimed (.xcvRdnone 0))).inp.xcvBusHigh = []) := by decide +kernel
/-- Two bits; a line empty beside one value; a low of one level with a high of the other. -/
theorem witness_IllFormedTransceiverInputFaults :
    (WriteTurn (aimed (.xcvWrmulti false true)) (turnNode (aimed (.xcvWrmulti false true))) ∧
      2 ≤ (turnNode (aimed (.xcvWrmulti false true))).inp.xcvTxBit.length) ∧
    (ReadTurn (aimRead [15] [] State.reset) (turnNode (aimRead [15] [] State.reset)) ∧
      ¬ ((turnNode (aimRead [15] [] State.reset)).inp.xcvBusLow = [] ∧ (turnNode (aimRead [15] [] State.reset)).inp.xcvBusHigh = []) ∧
      ¬ ((turnNode (aimRead [15] [] State.reset)).inp.xcvBusLow.length = 1 ∧
        (turnNode (aimRead [15] [] State.reset)).inp.xcvBusHigh.length = 1)) ∧
    (ReadTurn (aimed (.xcvRdbad false)) (turnNode (aimed (.xcvRdbad false))) ∧
      (turnNode (aimed (.xcvRdbad false))).inp.xcvBusLow = [15] ∧ (turnNode (aimed (.xcvRdbad false))).inp.xcvBusHigh = [25] ∧
      (aimed (.xcvRdbad false)).cfg.vDomHigh ≠ 25 ∧ (aimed (.xcvRdbad false)).cfg.vRec ≠ 15) := by decide +kernel
theorem witness_InjectionAddsOneRecessiveSample :
    (0 < (aimed .wiresInject).wires.inj + (aimed .wiresInject).wires.wReq.length ∧ (aimed .wiresInject).fn.call = none ∧
      (aimed .wiresInject).seq.stage = .wi) ∧
    ((aimed .wiresNoinj).wires.inj + (aimed .wiresNoinj).wires.wReq.length = 0 ∧ (aimed .wiresNoinj).fn.call = none ∧
      (aimed .wiresNoinj).seq.stage = .wi) := by decide +kernel
theorem witness_IdleAndUnevenLinesAreTold :
    ((aimed (.wiresIdle 0)).fn.call = none ∧ (aimed (.wiresIdle 0)).seq.stage = .wr ∧ (aimed (.wiresIdle 0)).wires.lows = [] ∧
      (aimed (.wiresIdle 0)).wires.highs = []) ∧
    ((aimed (.wiresNosamples 0)).wires.lows ≠ [] ∧ (aimed (.wiresNosamples 0)).wires.highs = []) ∧
    ((aimed (.wiresMismatch 0)).wires.lows ≠ [] ∧ (aimed (.wiresMismatch 0)).wires.highs ≠ [] ∧
      (aimed (.wiresMismatch 0)).wires.lows.length ≠ (aimed (.wiresMismatch 0)).wires.highs.length) := by decide +kernel
/-- V-PH-20, where the second pair is the wrong way round; and a sample one unit past V_MAX. -/
theorem witness_WrongPairsAndSamplesOutOfRangeFault :
    (let s := aimResolve [25, 37] [25, 15] State.reset;
      s.wires.lows[1]? = some 37 ∧ s.wires.highs[1]? = some 15 ∧ (15 : Voltage) < 37 ∧ s.wires.lows[0]? = some 25 ∧
      s.wires.highs[0]? = some 25 ∧ s.fn.call = none ∧ s.seq.stage = .wr ∧ s.wires.lows.length = s.wires.highs.length) ∧
    (let s := aimed .wiresRange;
      s.cfg.vMax + 1 ∈ s.wires.lows ++ s.wires.highs ∧ s.cfg.vMax < s.cfg.vMax + 1 ∧ s.fn.call = none ∧ s.seq.stage = .wr ∧
      s.wires.lows = [s.cfg.vMax + 1] ∧ s.wires.highs = [s.cfg.vMax + 1]) := by decide +kernel
/-- Samples at V_MIN and V_MAX themselves. -/
theorem witness_ResolutionIsLeastLowAndGreatestHigh :
    (let s := aimResolve [0, 25] [37, 50] State.reset;
      s.wires.lows ≠ [] ∧ s.wires.highs ≠ [] ∧ s.fn.call = none ∧ s.seq.stage = .wr ∧
      s.wires.lows.length = s.wires.highs.length ∧ firstLowAbove s.wires.lows s.wires.highs = none ∧
      (∀ v ∈ s.wires.lows ++ s.wires.highs, s.cfg.vMin ≤ v ∧ v ≤ s.cfg.vMax)) := by decide +kernel
/-- One dominant and one recessive driver, the lines in different orders; and an injected sample alone. -/
theorem witness_BusIsTheAndOfTheDrivenBits :
    (let s : State := { aim .wi State.reset with wires := { State.reset.wires with wLow := [25, 15], wHigh := [37, 25] } };
      s.cfg.legal = true ∧ s.fn.call = none ∧ s.seq.stage = .wi ∧ s.seq.ended = false ∧ s.wires.busLow = [] ∧ s.wires.busHigh = [] ∧
      s.wires.wLow.Perm ([dominant, recessive].map fun b => if b then s.cfg.vRec else s.cfg.vDomLow) ∧
      s.wires.wHigh.Perm ([dominant, recessive].map fun b => if b then s.cfg.vRec else s.cfg.vDomHigh)) ∧
    ((aimed .wiresInject).wires.wLow = [] ∧ 0 < (aimed .wiresInject).wires.inj + (aimed .wiresInject).wires.wReq.length) ∧
    ReadTurn (aimed .xcvRd0) (turnNode (aimed .xcvRd0)) := by decide +kernel
theorem witness_WatchdogObservesReportsAndSilence :
    (let s := aimed (.wdgDormant 4);
      s.fn.call = none ∧ s.seq.stage = .wd ∧ s.wd.active = false ∧ s.wd.wdState = [] ∧ s.wd.wdBusLow = [] ∧ s.wd.wdBusHigh = []) ∧
    (aimed (.wdgContIdle true)).wd.active = true ∧
    (let w : Watchdog := { Watchdog.reset Config.default with wdState := [⟨1, 4#3⟩] };
      (∀ r ∈ w.wdState, r.node ≠ 0) ∧ (⟨1, 4#3⟩ : StateReport) ∈ w.wdState ∧ 1 < w.last.length ∧
      ∀ r ∈ w.wdState, r.node = 1 → r = ⟨1, 4#3⟩) := by decide +kernel
/-- WD_IDLE' = T_START + 1. -/
theorem witness_WatchdogRequestsAfterTheStartThreshold :
    (let s := aimed (.wdgRequest false);
      s.fn.call = none ∧ s.seq.stage = .wd ∧ s.wd.active = true ∧ (∃ x ∈ s.wd.merged, x ≠ CtlState.idle) ∧
      s.wd.idle' = s.cfg.tStart + 1) := by decide +kernel
/-- WD_IDLE' at T_START, at T_STOP + 1 and at T_STOP. -/
theorem witness_WatchdogKeepsCountingOrSleeps :
    (let s := aimWatch 1#3 2 true [] State.reset;
      s.fn.call = none ∧ s.seq.stage = .wd ∧ s.wd.active = true ∧ (∃ x ∈ s.wd.merged, x ≠ CtlState.idle) ∧ s.wd.idle' = s.cfg.tStart) ∧
    (let s := aimed (.wdgSleep true);
      s.wd.active = true ∧ (∀ x ∈ s.wd.merged, x = CtlState.idle) ∧ s.wd.idle' = s.cfg.tStop + 1) ∧
    (let s := aimWatch 0#3 29 true [] State.reset;
      s.wd.active = true ∧ (∀ x ∈ s.wd.merged, x = CtlState.idle) ∧ s.wd.idle' = s.cfg.tStop) := by decide +kernel
theorem witness_CodecCallsReturnTheirFunction :
    (aimed .fnStuff).fn.k ≠ 0 ∧ frameValid (aimed .fnFrameToBits).fn.frame = true ∧
    (aimed .fnReserved).fn.call = some 0b111#3 ∧
    ({ State.reset with fn := { State.reset.fn with k := 0 } } : State).fn.k = 0 := by decide
theorem witness_DestuffUndoesStuff : 1 ≤ 1 := by decide
/-- The frames with the longest stream and with the shortest. -/
theorem witness_DecodeWireUndoesFrameToBits :
    frameValid ⟨0, 8, List.replicate 8 0x3C⟩ = true ∧ frameValid ⟨0x555, 0, []⟩ = true := by decide
theorem witness_DataRegionHoldsTheFieldsInOrder :
    frameValid ⟨0x7FF, 8, List.replicate 8 255⟩ = true ∧ (List.replicate 8 255)[7]? = some 255 := by decide
theorem witness_StuffedRunsAreBounded : 2 ≤ 2 ∧ List.replicate 2 dominant <:+: stuff [dominant, dominant] 2 := by decide
theorem witness_RawStreamLengthIsBounded :
    frameValid ⟨0, 8, List.replicate 8 0x3C⟩ = true ∧ stuffCount ⟨0, 8, List.replicate 8 0x3C⟩ = 18 ∧
    frameValid ⟨0, 0, []⟩ = true ∧ stuffCount ⟨0, 0, []⟩ = 3 := by decide +kernel
theorem witness_ArbEndIsTheIdentifiersEnd :
    frameValid ⟨0x000, 0, []⟩ = true ∧ frameValid ⟨0x100, 0, []⟩ = true ∧ frameValid ⟨0x555, 0, []⟩ = true := by decide
/-- Two identifiers that differ in their last bit only, and in their first. -/
theorem witness_LowerIdentifierIsDominantAtTheFirstDifference :
    (frameValid ⟨0x100, 0, []⟩ = true ∧ frameValid ⟨0x101, 0, []⟩ = true ∧ 0x100 < 0x101) ∧
    (frameValid ⟨0x3FF, 0, []⟩ = true ∧ frameValid ⟨0x400, 8, List.replicate 8 0⟩ = true ∧ 0x3FF < 0x400) := by decide
/-- The last controller's turn in a halted step. -/
def haltedLast : State :=
  let s := withHalt State.reset
  { s with seq := { Sequencer.start true with node := s.nodes.length - 1 } }
/-- Two nodes, each with one value on every fan-in port. -/
def fanIn : State :=
  { State.reset with nodes := [(0, 15, 35), (1, 14, 36)].map fun ((n, l, h) : Nat × Voltage × Voltage) =>
      { Node.reset with out := { NodeOut.empty with canLow := [l], canHigh := [h], report := [⟨n, 4#3⟩] } } }
/-- Both ends of the turn order, two values on every fan-in port taken against the order of the nodes, and no draw left. -/
theorem witness_EmitsAreDeliveredOneStepLater :
    ((∃ nd, State.reset.nodes[1]? = some nd) ∧ (aimed (.wdgDormant 4)).seq.stage = .wd ∧
      haltedLast.seq.stage = .ctl ∧ haltedLast.nodes.length ≤ haltedLast.seq.node + 1 ∧ haltedLast.seq.halted = true) ∧
    (([14, 15] : List Voltage).Perm (fanIn.nodes.flatMap fun nd => nd.out.canLow) ∧
      ([36, 35] : List Voltage).Perm (fanIn.nodes.flatMap fun nd => nd.out.canHigh) ∧
      ([⟨1, 4#3⟩, ⟨0, 4#3⟩] : List StateReport).Perm (fanIn.nodes.flatMap fun nd => nd.out.report)) ∧
    fanIn.draws = [] :=
  ⟨⟨⟨_, rfl⟩, rfl, rfl, by decide, rfl⟩, ⟨.swap _ _ _, .swap _ _ _, .swap _ _ _⟩, rfl⟩
/-- A controller and a transceiver of the same node, and two controllers. -/
theorem witness_OrderOfAgentsHasNoEffect :
    (actorOf 0 (.idleSof 0) ≠ actorOf 0 .xcvWr0 ∧ ∃ s1 s12, actAs 0 0 (.idleSof 0) State.reset = .next s1 ∧
      actAs 0 0 .xcvWr0 s1 = .next s12) ∧
    (actorOf 0 (.idleSof 0) ≠ actorOf 1 (.ctlMulti 0 true true 0) ∧ ∃ s1 s12, actAs 0 0 (.idleSof 0) State.reset = .next s1 ∧
      actAs 1 0 (.ctlMulti 0 true true 0) s1 = .next s12) :=
  ⟨⟨by decide, _, _, rfl, rfl⟩, ⟨by decide, _, _, rfl, rfl⟩⟩
/-- The state after reset once the boot burst and the watchdog have ended. -/
def quietState : State :=
  { State.reset with wires := { State.reset.wires with inj := 0 }, wd := { State.reset.wd with active := false } }
/-- A run of one step that faults, one that has quiesced when it starts, and one that goes on. -/
theorem witness_RunEndsAtTheFirstFaultOrInQuiescence :
    (let s := ctl0 [] [⟨0x800, 0, []⟩] id;
      s.anyFault = false ∧ ∃ t, runUntilEnd 1 s = .next ⟨some (.faulted [(.controller 0, ⟨12#4, 0#8⟩)] 0 []), t⟩) ∧
    (quietState.anyFault = false ∧ runUntilEnd 1 quietState = .next ⟨some (.quiesced []), quietState⟩) ∧
    (∃ u, systemSteps 1 State.reset = .next u ∧ runUntilEnd 1 State.reset = .next ⟨none, u⟩) :=
  ⟨⟨rfl, _, rfl⟩, ⟨rfl, rfl⟩, _, rfl, rfl⟩
theorem witness_QuietSystemStaysQuiet :
    quietState.quiet ∧ (∀ nd ∈ quietState.nodes, nd.ctl.state.toNat ≤ 4) ∧ quietState.seq.node < quietState.nodes.length :=
  ⟨⟨by decide, by decide⟩, by decide, by decide⟩

end Sys2Proof.Tests
end

section
/-! What a step is made of, said once: whose selector it computes, which format the chosen operation has, and what each kind of
operation may write, its fault record apart (10_state R28, 60_exceptions R190). -/
namespace Sys2Proof.Machine

/-! ## The parts of a step -/

/-- A step that answers a next state has computed a selector, found its row, run the operation and passed the turn on. -/
theorem step_next (s t : State) (h : step s = .next t) :
    ∃ sel i s', fetch s = .ok sel ∧ decode sel = some i ∧ exec i s = .next s' ∧ t = s'.advance sel.format := by
  unfold step at h
  cases hf : fetch s with
  | error e => simp [hf] at h
  | ok sel =>
    cases hd : decode sel with
    | none => simp [hf, hd] at h
    | some i =>
      cases he : exec i s with
      | next s' => exact ⟨sel, i, s', rfl, hd, he, by simpa [hf, hd, he] using h.symm⟩
      | fault e => simp [hf, hd, he] at h
      | refused r => simp [hf, hd, he] at h

/-- Where a selector word comes from: a waiting codec call, or the agent whose turn it is. -/
inductive Fetched (s : State) : Selector → Prop where
  | call (id : BitVec 3) : Fetched s (.fn id)
  | enq (nd : Node) (f : Frame) (hs : s.seq.stage = .ctl) (hn : s.node? = some nd) (hf : enqFrame s nd = some f) :
      Fetched s (.host (hostSelector s nd f))
  | ctl (nd : Node) (w : BitVec 10) (hs : s.seq.stage = .ctl) (hn : s.node? = some nd) (hf : enqFrame s nd = none)
      (hw : ctlSelector s.seq.halted nd = .ok w) : Fetched s (.ctl w)
  | xw (w : BitVec 3) (hs : s.seq.stage = .xw) : Fetched s (.xw w)
  | xr (w : BitVec 4) (hs : s.seq.stage = .xr) : Fetched s (.xr w)
  | wi (w : BitVec 1) (hs : s.seq.stage = .wi) : Fetched s (.wi w)
  | wr (w : BitVec 5) (hs : s.seq.stage = .wr) : Fetched s (.wr w)
  | wd (w : BitVec 4) (hs : s.seq.stage = .wd) : Fetched s (.wd w)

theorem nodeSelector_ok (s : State) (k : Node → Except Fault Selector) (sel : Selector) (h : nodeSelector s k = .ok sel) :
    ∃ nd, s.node? = some nd ∧ k nd = .ok sel := by
  unfold nodeSelector at h
  split at h
  · cases h
  · next nd hn => exact ⟨nd, hn, h⟩

theorem controllerSelector_fetched (s : State) (nd : Node) (sel : Selector) (hs : s.seq.stage = .ctl)
    (hn : s.node? = some nd) (h : controllerSelector s nd = .ok sel) : Fetched s sel := by
  unfold controllerSelector at h
  split at h
  · next f hf => cases h; exact .enq nd f hs hn hf
  · next hf =>
    split at h
    · next w hw => cases h; exact .ctl nd w hs hn hf hw
    · cases h

theorem fetch_fetched (s : State) (sel : Selector) (h : fetch s = .ok sel) : Fetched s sel := by
  unfold fetch at h
  split at h
  · next id _ => cases h; exact .call id
  · split at h
    · next hs =>
      obtain ⟨nd, hn, hk⟩ := nodeSelector_ok s _ sel h
      exact controllerSelector_fetched s nd sel hs hn hk
    · next hs => obtain ⟨nd, -, hk⟩ := nodeSelector_ok s _ sel h; cases hk; exact .xw _ hs
    · next hs => obtain ⟨nd, -, hk⟩ := nodeSelector_ok s _ sel h; cases hk; exact .xr _ hs
    · next hs => cases h; exact .wi _ hs
    · next hs => cases h; exact .wr _ hs
    · next hs => cases h; exact .wd _ hs

/-! ## The operation a word chooses has the word's format (R82) -/

/-- The operation a row table gives for a word encodes to that word. -/
def RowsEncode {w : Nat} (rows : List (Row w)) (sel : BitVec w → Selector) : Prop :=
  ∀ x : BitVec w, (firstMatch rows x).all (fun i => encode i == sel x) = true

theorem RowsEncode.encode_eq {w : Nat} {rows : List (Row w)} {sel : BitVec w → Selector} (h : RowsEncode rows sel)
    (x : BitVec w) (i : Instr) (hi : firstMatch rows x = some i) : encode i = sel x := by
  simpa [hi] using h x

theorem ctlRows_encode : RowsEncode ctlRows .ctl := by unfold RowsEncode; decide +kernel
theorem hostRows_encode : RowsEncode hostRows .host := by unfold RowsEncode; decide +kernel
theorem xwRows_encode : RowsEncode xwRows .xw := by unfold RowsEncode; decide +kernel
theorem xrRows_encode : RowsEncode xrRows .xr := by unfold RowsEncode; decide +kernel
theorem wiRows_encode : RowsEncode wiRows .wi := by unfold RowsEncode; decide +kernel
theorem wrRows_encode : RowsEncode wrRows .wr := by unfold RowsEncode; decide +kernel
theorem wdRows_encode : RowsEncode wdRows .wd := by unfold RowsEncode; decide +kernel
theorem fnRows_encode : RowsEncode fnRows .fn := by unfold RowsEncode; decide +kernel

/-- No bit of a selector word is dropped by the decode. -/
theorem encode_of_decode (sel : Selector) (i : Instr) (h : decode sel = some i) : encode i = sel := by
  cases sel with
  | ctl w => exact ctlRows_encode.encode_eq w i h
  | host w => exact hostRows_encode.encode_eq w i h
  | xw w => exact xwRows_encode.encode_eq w i h
  | xr w => exact xrRows_encode.encode_eq w i h
  | wi w => exact wiRows_encode.encode_eq w i h
  | wr w => exact wrRows_encode.encode_eq w i h
  | wd w => exact wdRows_encode.encode_eq w i h
  | fn w => exact fnRows_encode.encode_eq w i h

/-! ## What an operation of each format may write -/

/-- `Change`, told apart by the format of the operation and by what becomes of the agent's FAULT: a controller's operation writes its
registers and emits, a transceiver's emits only, and FAULT is written by `raise` alone (R190). -/
inductive Effect (s : State) : Format → State → Prop where
  | none (f : Format) : Effect s f s
  | ctl (nd : Node) (c : Controller) (o : NodeOut) (f : Format) (hf : f = .ctl ∨ f = .host) (hn : s.node? = some nd)
      (hc : c.fault = nd.ctl.fault) : Effect s f (s.putNode { nd with ctl := c, out := o })
  | ctlRaise (nd : Node) (c : Controller) (o : NodeOut) (k : FaultKind) (info : Nat) (f : Format) (hf : f = .ctl ∨ f = .host)
      (hn : s.node? = some nd) :
      Effect s f (s.putNode { nd with ctl := { c with fault := nd.ctl.fault.raise k info }, out := o }).endTurn
  | xcv (nd : Node) (o : NodeOut) (f : Format) (hf : f = .xw ∨ f = .xr) (hn : s.node? = some nd) :
      Effect s f (s.putNode { nd with out := o })
  | xcvRaise (nd : Node) (o : NodeOut) (k : FaultKind) (info : Nat) (f : Format) (hf : f = .xw ∨ f = .xr)
      (hn : s.node? = some nd) : Effect s f (s.putNode { nd with xcvFault := nd.xcvFault.raise k info, out := o }).endTurn
  | wires (w : Wires) (f : Format) (hf : f = .wi ∨ f = .wr) (hw : w.fault = s.wires.fault) : Effect s f { s with wires := w }
  | wiresRaise (w : Wires) (k : FaultKind) (info : Nat) :
      Effect s .wr (State.endTurn { s with wires := { w with fault := s.wires.fault.raise k info } })
  | watchdog (w : Watchdog) (hl : w.last.length = s.wd.last.length) : Effect s .wd { s with wd := w }
  | codec (r : FnResult) : Effect s .fn { s with fn := { s.fn with result := r } }

theorem noEffect_effect (s t : State) (f : Format) (h : noEffect s = .next t) : Effect s f t := by
  obtain rfl : s = t := by simpa [noEffect] using h
  exact .none f

theorem withNode_effect (s t : State) (f : Format) (k : Node → Result) (h : withNode s k = .next t)
    (hk : ∀ nd, s.node? = some nd → k nd = .next t → Effect s f t) : Effect s f t := by
  obtain ⟨nd, hn, ht⟩ := withNode_next s t k h
  exact hk nd hn ht

/-- `raise` by a controller whose registers were written before it. -/
theorem raiseCtl_effect (s t : State) (nd : Node) (c : Controller) (k : FaultKind) (info : Nat) (f : Format)
    (hf : f = .ctl ∨ f = .host) (hn : s.node? = some nd) (h : raiseCtl s { nd with ctl := c } k info = .next t)
    (hc : c.fault = nd.ctl.fault) : Effect s f t := by
  obtain rfl := by simpa [raiseCtl] using h
  rw [hc]
  exact .ctlRaise nd c _ k info f hf hn

theorem raiseXcv_effect (s t : State) (nd : Node) (k : FaultKind) (info : Nat) (f : Format) (hf : f = .xw ∨ f = .xr)
    (hn : s.node? = some nd) (h : raiseXcv s nd k info = .next t) : Effect s f t := by
  obtain rfl := by simpa [raiseXcv] using h
  exact .xcvRaise nd _ k info f hf hn

theorem raiseWires_effect (s t : State) (k : FaultKind) (info : Nat) (h : raiseWires s k info = .next t) : Effect s .wr t := by
  obtain rfl := by simpa [raiseWires] using h
  exact .wiresRaise { s.wires with busLow := [], busHigh := [] } k info

theorem txWrite_effect (s t : State) (nd : Node) (c : Controller) (hn : s.node? = some nd)
    (h : txWrite s { nd with ctl := c } = .next t) (hc : c.fault = nd.ctl.fault) : Effect s .ctl t := by
  obtain ⟨e, q, b, -, -, rfl⟩ := txWrite_next s t _ h
  exact .ctl nd _ _ .ctl (.inl rfl) hn hc

theorem fnReturn_effect (s t : State) (r : FnResult) (h : fnReturn s r = .next t) : Effect s .fn t := by
  obtain rfl := by simpa [fnReturn] using h
  exact .codec r

theorem Watchdog.length_merged (w : Watchdog) : w.merged.length = w.last.length := by
  unfold Watchdog.merged
  generalize w.last = l
  induction w.wdState generalizing l with
  | nil => rfl
  | cons r rs ih => simpa using ih (l.set r.node r.state)

theorem Wires.inject_fault (w : Wires) (v : Voltage) : (w.inject v).fault = w.fault := by
  unfold Wires.inject; dsimp only; split <;> rfl

/-- Every operation that answers a next state has an effect of its format. -/
theorem exec_effect (i : Instr) (s t : State) (h : exec i s = .next t) : Effect s (encode i).format t := by
  cases i with
  | ctlHalted | ctlNobit | idleStay | enqHalted | xcvWrnone | xcvRdnone | wiresIdle | wdgDormant =>
    exact noEffect_effect s t _ h
  | ctlBadState5 | ctlBadState67 | ctlBadStateRxc | ctlMulti | enqBad =>
    exact withNode_effect s t _ _ h fun nd hn hk => raiseCtl_effect s t nd nd.ctl _ _ _ (by simp [encode, Selector.format]) hn hk rfl
  | rxHdrbad | rxBadeof =>
    exact withNode_effect s t _ _ h fun nd hn hk => raiseCtl_effect s t nd _ _ _ _ (.inl rfl) hn hk rfl
  | idleSof | idleStart | waitSof | waitCount | rxData | rxSkip | rxHdr | rxTrail =>
    refine withNode_effect s t _ _ h fun nd hn hk => ?_
    obtain rfl := by simpa using hk
    exact .ctl nd _ nd.out .ctl (.inl rfl) hn rfl
  | waitGo | arbMatch | arbWon | txNext =>
    exact withNode_effect s t _ _ h fun nd hn hk => txWrite_effect s t nd _ hn hk rfl
  | arbLost =>
    refine withNode_effect s t _ _ h fun nd hn hk => ?_
    obtain ⟨e, q, hq, hk⟩ := withHead_next nd t _ hk
    cases hi : lastIndex e with
    | error => simp [hi] at hk
    | ok i =>
      obtain rfl := by simpa [hi] using hk
      exact .ctl nd _ nd.out .ctl (.inl rfl) hn rfl
  | arbBusfault =>
    refine withNode_effect s t _ _ h fun nd hn hk => ?_
    obtain ⟨e, q, hq, hk⟩ := withHead_next nd t _ hk
    cases hi : lastIndex e with
    | error => simp [hi] at hk
    | ok i => exact raiseCtl_effect s t nd nd.ctl _ _ _ (.inl rfl) hn (by simpa [hi] using hk) rfl
  | txDone =>
    refine withNode_effect s t _ _ h fun nd hn hk => ?_
    obtain ⟨e, q, hq, hk⟩ := withHead_next nd t _ hk
    obtain rfl := by simpa using hk
    exact .ctl nd _ nd.out .ctl (.inl rfl) hn rfl
  | rxDone =>
    refine withNode_effect s t _ _ h fun nd hn hk => ?_
    cases hf : bitsToFrame nd.ctl.rx.data with
    | error => simp [hf] at hk
    | ok f =>
      obtain rfl := by simpa [hf] using hk
      exact .ctl nd _ _ .ctl (.inl rfl) hn rfl
  | enqFull =>
    refine withNode_effect s t _ _ h fun nd hn hk => ?_
    split at hk
    · exact raiseCtl_effect s t nd nd.ctl _ _ _ (.inr rfl) hn hk rfl
    · exact noEffect_effect s t _ hk
  | enq =>
    refine withNode_effect s t _ _ h fun nd hn hk => ?_
    cases hf : enqFrame s nd with
    | none => simp [hf] at hk
    | some f =>
      obtain rfl := by simpa [hf] using hk
      exact .ctl nd _ nd.out .host (.inr rfl) hn rfl
  | xcvWrmulti | xcvRdmulti | xcvRdbad =>
    exact withNode_effect s t _ _ h fun nd hn hk => raiseXcv_effect s t nd _ _ _ (by simp [encode, Selector.format]) hn hk
  | xcvWr0 | xcvWr1 | xcvRd0 | xcvRd1 =>
    refine withNode_effect s t _ _ h fun nd hn hk => ?_
    obtain rfl := by simpa using hk
    exact .xcv nd _ _ (by simp [encode, Selector.format]) hn
  | wiresInject | wiresNoinj =>
    obtain rfl := by simpa [exec, execWiresInject, execWiresNoinj] using h
    exact .wires _ .wi (.inl rfl) (Wires.inject_fault _ _)
  | wiresNosamples | wiresMismatch => exact raiseWires_effect s t _ _ h
  | wiresLowhigh =>
    simp only [exec, execWiresLowhigh] at h
    split at h
    · exact raiseWires_effect s t _ _ h
    · exact noEffect_effect s t _ h
  | wiresRange =>
    simp only [exec, execWiresRange] at h
    split at h
    · exact raiseWires_effect s t _ _ h
    · exact noEffect_effect s t _ h
  | wiresResolve =>
    simp only [exec, execWiresResolve] at h
    split at h
    · obtain rfl := by simpa using h
      exact .wires _ .wr (.inr rfl) rfl
    · simp at h
  | wdgRequest | wdgContBusy | wdgSleep | wdgContIdle =>
    obtain rfl := by simpa [exec, execWdgRequest, execWdgContBusy, execWdgSleep, execWdgContIdle] using h
    exact .watchdog _ (Watchdog.length_merged s.wd)
  | fnStuff | fnDestuff =>
    simp only [exec, execFnStuff, execFnDestuff] at h
    split at h
    · simp at h
    · exact fnReturn_effect s t _ h
  | fnFrameToBits | fnFrameValid | fnArbEnd => exact fnReturn_effect s t _ h
  | fnBitsToFrame | fnDecodeWire =>
    simp only [exec, execFnBitsToFrame, execFnDecodeWire] at h
    split at h <;> exact fnReturn_effect s t _ h
  | fnReserved => simp [exec, execFnReserved] at h

/-- A step is an effect of the format of its selector, then the turn passes on. -/
theorem step_effect (s t : State) (h : step s = .next t) :
    ∃ f s', Effect s f s' ∧ t = s'.advance f := by
  obtain ⟨sel, i, s', -, hd, he, ht⟩ := step_next s t h
  have hi := exec_effect i s s' he
  rw [encode_of_decode sel i hd] at hi
  exact ⟨sel.format, s', hi, ht⟩

end Sys2Proof.Machine
end

section
/-! Passing the turn on writes no register (20_memory R51, R52), and no operation changes a latched fault record (10_state R28,
60_exceptions R194, R195). -/
namespace Sys2Proof.Machine

/-! ## What passes the turn on writes no register -/

theorem SameRegisters.refl (s : State) : SameRegisters s s := ⟨rfl, rfl, rfl, rfl, rfl, rfl, rfl⟩

theorem SameRegisters.trans {s t u : State} (h : SameRegisters s t) (h' : SameRegisters t u) : SameRegisters s u := by
  obtain ⟨a, b, c, d, e, f, g⟩ := h
  obtain ⟨a', b', c', d', e', f', g'⟩ := h'
  exact ⟨a'.trans a, b'.trans b, c'.trans c, d'.trans d, e'.trans e, f'.trans f, g'.trans g⟩

/-- A node has the same registers in the other state. -/
theorem SameRegisters.node {s t : State} (h : SameRegisters s t) {m : Nat} {nd : Node} (hm : s.nodes[m]? = some nd) :
    ∃ nd', t.nodes[m]? = some nd' ∧ nd'.ctl = nd.ctl ∧ nd'.xcvFault = nd.xcvFault := by
  have hmap := congrArg (·[m]?) h.1
  simp only [List.getElem?_map, hm, Option.map_some] at hmap
  obtain ⟨nd', hnd', he⟩ := Option.map_eq_some_iff.mp hmap
  exact ⟨nd', hnd', congrArg Prod.fst he, congrArg Prod.snd he⟩

theorem map_registers_set (l : List Node) (n : Nat) (nd nd' : Node) (hn : l[n]? = some nd) (hc : nd'.ctl = nd.ctl)
    (hx : nd'.xcvFault = nd.xcvFault) :
    (l.set n nd').map (fun nd => (nd.ctl, nd.xcvFault)) = l.map fun nd => (nd.ctl, nd.xcvFault) := by
  obtain ⟨hlt, rfl⟩ := List.getElem?_eq_some_iff.mp hn
  rw [List.map_set, hc, hx, ← List.getElem_map fun nd : Node => (nd.ctl, nd.xcvFault)]
  · exact List.set_getElem_self _
  · simpa using hlt

theorem map_registers_deliverNodes (sched : List Delivery) (t n : Nat) (low high : List Voltage) (l : List Node) :
    (deliverNodes sched t low high n l).map (fun nd => (nd.ctl, nd.xcvFault)) = l.map fun nd => (nd.ctl, nd.xcvFault) := by
  induction l generalizing n with
  | nil => rfl
  | cons nd nds ih => simp [deliverNodes, ih]

theorem reportState_sameRegisters (s : State) : SameRegisters s (reportState s) := by
  unfold reportState
  split
  · exact .refl s
  · next nd hn =>
    split
    · exact ⟨map_registers_set s.nodes s.seq.node nd _ hn rfl rfl, rfl, rfl, rfl, rfl, rfl, rfl⟩
    · exact .refl s

theorem commit_sameRegisters (s : State) : SameRegisters s s.commit :=
  ⟨map_registers_deliverNodes _ _ _ _ _ _, rfl, rfl, rfl, rfl, rfl, rfl⟩

theorem turn_sameRegisters (s : State) (g : Stage) (n : Nat) : SameRegisters s (s.turn g n) := .refl s

theorem nextAgent_sameRegisters (s : State) : SameRegisters s s.nextAgent := by
  unfold State.nextAgent
  split
  · split
    · exact turn_sameRegisters s _ _
    · split
      · exact commit_sameRegisters s
      · exact turn_sameRegisters s _ _
  · split <;> exact turn_sameRegisters s _ _
  · split <;> exact turn_sameRegisters s _ _
  · exact turn_sameRegisters s _ _
  · exact turn_sameRegisters s _ _
  · exact commit_sameRegisters s

theorem afterEnq_sameRegisters (s : State) : SameRegisters s s.afterEnq := by
  unfold State.afterEnq
  dsimp only
  split
  · exact .refl s
  · split
    · exact nextAgent_sameRegisters s
    · exact .refl s

theorem advance_sameRegisters (s : State) (f : Format) : SameRegisters s (s.advance f) := by
  cases f with
  | ctl => exact (reportState_sameRegisters s).trans (nextAgent_sameRegisters _)
  | host => exact afterEnq_sameRegisters s
  | xw =>
    simp only [State.advance]
    split
    · exact nextAgent_sameRegisters s
    · exact .refl s
  | xr | wr | wd => exact nextAgent_sameRegisters s
  | wi | fn => exact .refl s

/-! ## Latched fault records are kept -/

/-- `r'` is what may stand where `r` stood: the same record when `r` was latched. -/
def FaultReg.KeptBy (r r' : FaultReg) : Prop := r.code ≠ 0 → r' = r

theorem FaultReg.keptBy_refl (r : FaultReg) : r.KeptBy r := fun _ => rfl

theorem FaultReg.keptBy_of_eq {r r' : FaultReg} (h : r' = r) : r.KeptBy r' := fun _ => h

theorem FaultReg.keptBy_raise (r : FaultReg) (k : FaultKind) (info : Nat) : r.KeptBy (r.raise k info) :=
  r.raise_of_latched k info

/-- No node is lost, and every latched record of `s` is kept in `t`. -/
def State.KeepsFaults (s t : State) : Prop :=
  (∀ (m : Nat) (nd : Node), s.nodes[m]? = some nd → ∃ nd' : Node, t.nodes[m]? = some nd' ∧
    nd.ctl.fault.KeptBy nd'.ctl.fault ∧ nd.xcvFault.KeptBy nd'.xcvFault) ∧ s.wires.fault.KeptBy t.wires.fault

theorem State.keepsFaults_of_nodes_eq {s t : State} (hn : t.nodes = s.nodes) (hw : s.wires.fault.KeptBy t.wires.fault) :
    s.KeepsFaults t :=
  ⟨fun _ nd hm => ⟨nd, hn ▸ hm, nd.ctl.fault.keptBy_refl, nd.xcvFault.keptBy_refl⟩, hw⟩

/-- Only the node whose turn it is was written, and its latched records are kept. -/
theorem State.keepsFaults_of_set {s t : State} (nd nd' : Node) (hn : s.node? = some nd)
    (ht : t.nodes = s.nodes.set s.seq.node nd') (hw : t.wires = s.wires) (hc : nd.ctl.fault.KeptBy nd'.ctl.fault)
    (hx : nd.xcvFault.KeptBy nd'.xcvFault) : s.KeepsFaults t := by
  refine ⟨fun m nd₀ hm => ?_, hw ▸ s.wires.fault.keptBy_refl⟩
  by_cases hme : m = s.seq.node
  · subst hme
    obtain rfl : nd = nd₀ := Option.some.inj (hn.symm.trans hm)
    exact ⟨nd', by rw [ht, List.getElem?_set_self (s.node?_lt nd hn)], hc, hx⟩
  · exact ⟨nd₀, by rw [ht, List.getElem?_set_ne (Ne.symm hme), hm], nd₀.ctl.fault.keptBy_refl, nd₀.xcvFault.keptBy_refl⟩

theorem Effect.keepsFaults {s t : State} {f : Format} (h : Effect s f t) : s.KeepsFaults t := by
  cases h with
  | none => exact State.keepsFaults_of_nodes_eq rfl (FaultReg.keptBy_refl _)
  | ctl nd c o _ _ hn hc => exact State.keepsFaults_of_set nd _ hn rfl rfl (FaultReg.keptBy_of_eq hc) (FaultReg.keptBy_refl _)
  | ctlRaise nd c o k info _ _ hn =>
    exact State.keepsFaults_of_set nd _ hn rfl rfl (FaultReg.keptBy_raise _ k info) (FaultReg.keptBy_refl _)
  | xcv nd o _ _ hn => exact State.keepsFaults_of_set nd _ hn rfl rfl (FaultReg.keptBy_refl _) (FaultReg.keptBy_refl _)
  | xcvRaise nd o k info _ _ hn =>
    exact State.keepsFaults_of_set nd _ hn rfl rfl (FaultReg.keptBy_refl _) (FaultReg.keptBy_raise _ k info)
  | wires w _ _ hw => exact State.keepsFaults_of_nodes_eq rfl (FaultReg.keptBy_of_eq hw)
  | wiresRaise w k info => exact State.keepsFaults_of_nodes_eq rfl (FaultReg.keptBy_raise _ k info)
  | watchdog | codec => exact State.keepsFaults_of_nodes_eq rfl (FaultReg.keptBy_refl _)

/-- Latched records are kept as well in a state of the same registers. -/
theorem State.KeepsFaults.trans_sameRegisters {s t u : State} (h : s.KeepsFaults t) (h' : SameRegisters t u) :
    s.KeepsFaults u := by
  obtain ⟨hnodes, hwires⟩ := h
  refine ⟨fun m nd hm => ?_, h'.2.2.1 ▸ hwires⟩
  obtain ⟨nd', hm', hc, hx⟩ := hnodes m nd hm
  obtain ⟨nd'', hm'', hc', hx'⟩ := h'.node hm'
  exact ⟨nd'', hm'', hc' ▸ hc, hx' ▸ hx⟩

/-- Settles O12: an operation writes FAULT by `raise` alone, which keeps a latched record, and passing the turn on writes no
register. -/
theorem noStepChangesALatchedFault : Obligations.NoStepChangesALatchedFault := by
  intro s t h
  obtain ⟨f, s', he, rfl⟩ := step_effect s t h
  exact he.keepsFaults.trans_sameRegisters (advance_sameRegisters s' f)

end Sys2Proof.Machine
end

section
/-! The invariant of the machine in two parts: what it says of the agents' registers, and what it says of the sequencer. Reset meets
both (10_state R39, 70_reset R220, R221), and passing the turn on keeps both. -/
namespace Sys2Proof.Machine

/-! ## The two parts of the invariant -/

/-- What the invariant says of the agents: how many there are, and every controller in good order. It speaks of registers only. -/
structure State.AgentsWf (s : State) : Prop where
  nodes_length : s.nodes.length = s.cfg.nNodes
  last_length : s.wd.last.length = s.cfg.nNodes
  nNodes_pos : 0 < s.cfg.nNodes
  ctl_wf : ∀ nd ∈ s.nodes, nd.ctl.wf s.cfg

/-- What the invariant says of the sequencer. -/
structure State.SeqWf (s : State) : Prop where
  node_lt : s.seq.stage = .ctl ∨ s.seq.stage = .xw ∨ s.seq.stage = .xr → s.seq.node < s.nodes.length
  ctl_of_halted : s.seq.halted = true → s.seq.stage = .ctl
  faulted : s.faultedOutOfTurn

theorem State.inv_iff (s : State) : s.Inv ↔ s.AgentsWf ∧ s.SeqWf := by
  constructor
  · rintro ⟨⟨hlen, hlast, hpos, hnode, hhalt⟩, hfault, hctl⟩
    exact ⟨⟨hlen, hlast, hpos, hctl⟩, ⟨hnode, hhalt, hfault⟩⟩
  · rintro ⟨⟨hlen, hlast, hpos, hctl⟩, ⟨hnode, hhalt, hfault⟩⟩
    exact ⟨⟨hlen, hlast, hpos, hnode, hhalt⟩, hfault, hctl⟩

theorem SameRegisters.length_nodes {s t : State} (h : SameRegisters s t) : t.nodes.length = s.nodes.length := by
  simpa using congrArg List.length h.1

theorem SameRegisters.mem {s t : State} (h : SameRegisters s t) {nd : Node} (hnd : nd ∈ t.nodes) :
    ∃ nd₀ ∈ s.nodes, nd₀.ctl = nd.ctl := by
  obtain ⟨nd₀, hnd₀, he⟩ := List.mem_map.mp (h.1 ▸ List.mem_map_of_mem hnd)
  exact ⟨nd₀, hnd₀, congrArg Prod.fst he⟩

/-- The agents' part depends on the registers alone. -/
theorem State.AgentsWf.of_sameRegisters {s t : State} (hs : s.AgentsWf) (h : SameRegisters s t) : t.AgentsWf := by
  have ⟨_, _, _, hlast, _, _, hcfg⟩ := h
  refine ⟨by rw [h.length_nodes, hcfg, hs.nodes_length], by rw [hlast, hcfg, hs.last_length], hcfg ▸ hs.nNodes_pos,
    fun nd hnd => ?_⟩
  obtain ⟨nd₀, hnd₀, he⟩ := h.mem hnd
  rw [hcfg, ← he]
  exact hs.ctl_wf nd₀ hnd₀

/-! ## Reset -/

theorem eq_reset_of_mem_resetWith (c : Config) (nd : Node) (h : nd ∈ (State.resetWith c).nodes) : nd = Node.reset :=
  List.eq_of_mem_replicate h

/-- Settles O5: every node is `Node.reset`, and the other agents are built from the tabled values. -/
theorem resetLeavesTheTabledValues : Obligations.ResetLeavesTheTabledValues := by
  intro c
  refine ⟨List.length_replicate, fun nd hnd => ?_, rfl, rfl, rfl, rfl, rfl, rfl, rfl, rfl, rfl, rfl, rfl, rfl⟩
  obtain rfl := eq_reset_of_mem_resetWith c nd hnd
  exact ⟨rfl, rfl, rfl, rfl, rfl, rfl, rfl, rfl, rfl, rfl, rfl, rfl, rfl, rfl⟩

/-- A controller after reset is in good order, whatever the queue depth: its queue is empty and nothing is received. -/
theorem Controller.wf_reset (cfg : Config) : Controller.reset.wf cfg := by
  have hidle : ¬ Controller.reset.sending := by decide
  refine ⟨by decide, ⟨by simp [Controller.reset], by simp [Controller.reset], fun h => absurd h hidle,
    by simp [Controller.reset], by decide, ?_⟩, fun _ => by decide⟩
  cases h : cfg.txqDepth <;> simp [Controller.reset]

theorem nNodes_pos_of_legal (c : Config) (h : c.legal = true) : 0 < c.nNodes := by
  simp only [Config.legal, Bool.and_eq_true, decide_eq_true_eq] at h
  omega

theorem resetWith_agentsWf (c : Config) (h : 0 < c.nNodes) : (State.resetWith c).AgentsWf where
  nodes_length := List.length_replicate
  last_length := List.length_replicate
  nNodes_pos := h
  ctl_wf := fun nd hnd => eq_reset_of_mem_resetWith c nd hnd ▸ Controller.wf_reset c

theorem powerUp_sameRegisters (c : Config) (sched : List Delivery) (draws : List FanDraw) :
    SameRegisters (State.resetWith c) (State.powerUp c sched draws) :=
  ⟨map_registers_deliverNodes _ _ _ _ _ _, rfl, rfl, rfl, rfl, rfl, rfl⟩

/-! ## Passing the turn on -/

/-- At the beginning of a system step the sequencer is in order when HALT covers every controller that has faulted. -/
theorem State.seqWf_of_start {s : State} (halted : Bool) (hs : s.seq = Sequencer.start halted) (hpos : 0 < s.nodes.length)
    (hf : halted = false → ∀ nd ∈ s.nodes, nd.ctl.fault.latched = false) : s.SeqWf := by
  refine ⟨fun _ => by rw [hs]; exact hpos, fun _ => by rw [hs]; rfl, fun hh m nd hm hl => ?_⟩
  rw [hs] at hh
  exact absurd hl (by simp [hf hh nd (List.mem_of_getElem? hm)])

theorem State.no_ctl_fault_of_anyFault (s : State) (h : s.anyFault = false) : ∀ nd ∈ s.nodes, nd.ctl.fault.latched = false := by
  simp only [State.anyFault, Bool.or_eq_false_iff, List.any_eq_false, Bool.or_eq_true, not_or, Bool.not_eq_true] at h
  exact fun nd hnd => (h.2 nd hnd).1

theorem commit_seqWf (s : State) (hpos : 0 < s.nodes.length) : s.commit.SeqWf := by
  refine State.seqWf_of_start s.anyFault rfl ?_ fun hf nd hnd => ?_
  · rwa [State.commit_nodes, length_deliverNodes]
  · obtain ⟨m, hm⟩ := List.mem_iff_getElem?.mp hnd
    rw [State.commit_nodes, getElem?_deliverNodes] at hm
    obtain ⟨nd₀, hnd₀, rfl⟩ := Option.map_eq_some_iff.mp hm
    exact s.no_ctl_fault_of_anyFault hf nd₀ (List.mem_of_getElem? hnd₀)

/-- The turn of an agent behind the controllers, in a step that is not halted. -/
theorem State.seqWf_of_not_ctl {s : State} (hs : s.seq.stage ≠ .ctl) (hh : s.seq.halted = false)
    (hn : s.seq.stage = .xw ∨ s.seq.stage = .xr → s.seq.node < s.nodes.length) : s.SeqWf where
  node_lt := fun h => hn (h.resolve_left hs)
  ctl_of_halted := fun h => absurd (hh.symm.trans h) (by decide)
  faulted := fun _ _ _ _ _ => .inl hs

theorem turn_seqWf_of_not_ctl (s : State) (g : Stage) (n : Nat) (hg : g ≠ .ctl) (hh : s.seq.halted = false)
    (hn : g = .xw ∨ g = .xr → n < s.nodes.length) : (s.turn g n).SeqWf :=
  State.seqWf_of_not_ctl hg hh hn

/-- Whose turn it is may pass it on: only controllers have turns in a halted step, and in another one no controller with a later turn
has faulted. -/
structure State.TurnDone (s : State) : Prop where
  nodes_pos : 0 < s.nodes.length
  ctl_of_halted : s.seq.halted = true → s.seq.stage = .ctl
  faulted : s.seq.halted = false → s.seq.stage = .ctl →
    ∀ m nd, s.nodes[m]? = some nd → nd.ctl.fault.latched = true → m ≤ s.seq.node

theorem State.TurnDone.not_halted {s : State} (h : s.TurnDone) (hs : s.seq.stage ≠ .ctl) : s.seq.halted = false := by
  simpa using mt h.ctl_of_halted hs

theorem State.SeqWf.turnDone {s : State} (h : s.SeqWf) (hpos : 0 < s.nodes.length) : s.TurnDone where
  nodes_pos := hpos
  ctl_of_halted := h.ctl_of_halted
  faulted := fun hh hs m nd hm hl => by
    rcases h.faulted hh m nd hm hl with h | h | ⟨h, -, -⟩
    · exact absurd hs h
    · exact h.le
    · exact h.le

theorem turn_ctl_seqWf (s : State) (h : s.TurnDone) (hs : s.seq.stage = .ctl) (hn : s.seq.node + 1 < s.nodes.length) :
    (s.turn .ctl (s.seq.node + 1)).SeqWf where
  node_lt := fun _ => hn
  ctl_of_halted := fun _ => rfl
  faulted := fun hh m nd hm hl => .inr (.inl (Nat.lt_succ_of_le (h.faulted hh hs m nd hm hl)))

/-- After a transceiver comes the next one, or the wires. -/
theorem nextXcv_seqWf (s : State) (h : s.TurnDone) (hs : s.seq.stage ≠ .ctl) :
    (if s.seq.node + 1 < s.nodes.length then s.turn .xw (s.seq.node + 1) else s.turn .wi 0).SeqWf := by
  split
  · next hn => exact turn_seqWf_of_not_ctl s .xw _ (by decide) (h.not_halted hs) fun _ => hn
  · exact turn_seqWf_of_not_ctl s .wi 0 (by decide) (h.not_halted hs) (by simp)

theorem State.TurnDone.nextAgent_seqWf {s : State} (h : s.TurnDone) : s.nextAgent.SeqWf := by
  unfold State.nextAgent
  split
  · next hs =>
    split
    · next hn => exact turn_ctl_seqWf s h hs hn
    · split
      · exact commit_seqWf s h.nodes_pos
      · next hh => exact turn_seqWf_of_not_ctl s .xw 0 (by decide) (by simpa using hh) fun _ => h.nodes_pos
  · next hs => exact nextXcv_seqWf s h (by simp [hs])
  · next hs => exact nextXcv_seqWf s h (by simp [hs])
  · next hs => exact turn_seqWf_of_not_ctl s .wd 0 (by decide) (h.not_halted (by simp [hs])) (by simp)
  · next hs => exact turn_seqWf_of_not_ctl s .wd 0 (by decide) (h.not_halted (by simp [hs])) (by simp)
  · exact commit_seqWf s h.nodes_pos

/-- Settles O6: the agents' registers are those of reset, and no fault is latched at the beginning of step 0. -/
theorem resetMeetsTheInvariant : Obligations.ResetMeetsTheInvariant := by
  intro c hc
  have hpos := nNodes_pos_of_legal c hc
  have hreset := resetWith_agentsWf c hpos
  have hseq (s : State) (h : SameRegisters (State.resetWith c) s) (hs : s.seq = Sequencer.start false) : s.SeqWf := by
    refine State.seqWf_of_start false hs (by rwa [h.length_nodes, hreset.nodes_length]) fun _ nd hnd => ?_
    obtain ⟨nd₀, hnd₀, he⟩ := h.mem hnd
    rw [← he, eq_reset_of_mem_resetWith c nd₀ hnd₀]
    rfl
  refine ⟨(State.inv_iff _).mpr ⟨hreset, hseq _ (.refl _) rfl⟩, fun sched draws => (State.inv_iff _).mpr ?_⟩
  have hsame := powerUp_sameRegisters c sched draws
  exact ⟨hreset.of_sameRegisters hsame, hseq _ hsame rfl⟩

end Sys2Proof.Machine
end

section
/-! What the transmit queue and the receive assembler keep: an entry fits its registers (10_state R25), the queue's cursor invariant
under the queue primitives (R24 to R26), and the assembler's order under the rules RX (R27, 42_controller R163 to R173). -/
namespace Sys2Proof.Machine

/-- A register counts up where it does not wrap. -/
theorem toNat_add_one {w : Nat} (v : BitVec w) (h : v.toNat + 1 < 2 ^ w) : (v + 1).toNat = v.toNat + 1 := by
  have hone : (1 : BitVec w).toNat = 1 := Nat.mod_eq_of_lt (lt_of_le_of_lt (Nat.le_add_left 1 _) h)
  rw [BitVec.toNat_add_of_lt (by rwa [hone]), hone]

/-! ## An entry fits its registers (R25) -/

/-- Stuffing with run length 5 adds at most one bit to four: a stuff bit counts in the next run. -/
theorem length_stuffFrom_le (rv : Bit) (rl : Nat) (bits : List Bit) (h : rl < stuffK) :
    4 * (stuffFrom stuffK rv rl bits).length ≤ 5 * bits.length + rl := by
  induction bits generalizing rv rl with
  | nil => simp [stuffFrom]
  | cons b bs ih =>
    simp only [stuffK] at h
    have hrun : (if 0 < rl ∧ b = rv then rl + 1 else 1) ≤ rl + 1 := by split <;> omega
    simp only [stuffFrom]
    generalize (if 0 < rl ∧ b = rv then rl + 1 else 1) = rl' at hrun
    split
    · next hk =>
      have := ih (!b) 1 (by decide)
      simp only [stuffK, List.length_cons] at *
      omega
    · next hk =>
      have := ih b rl' (by omega)
      simp only [List.length_cons] at *
      omega

@[simp] theorem length_ubits (n v : Nat) : (ubits n v).length = n := by
  induction n with
  | zero => rfl
  | succ n ih => simp [ubits, ih]

theorem length_dataRegion (f : Frame) : (dataRegion f).length = 16 + 8 * (min f.dlc f.data.length) := by
  simp [dataRegion, idBits, dlcBits, List.length_flatMap]
  omega

theorem dlc_le_of_frameValid (f : Frame) (h : frameValid f = true) : f.dlc ≤ maxDlc := by
  simp only [frameValid, Bool.and_eq_true, decide_eq_true_eq] at h
  exact h.1.1.2

/-- A raw stream fits the seven bits of `len` and `off`. -/
theorem length_frameToBits_lt (f : Frame) (h : frameValid f = true) : (frameToBits f).length < 128 := by
  have hdlc := dlc_le_of_frameValid f h
  have hregion := length_dataRegion f
  have hstuff := length_stuffFrom_le dominant 0 (dataRegion f) (by decide)
  simp only [maxDlc] at hdlc
  simp only [frameToBits, stuff, trailer, List.length_append, List.length_replicate, eofLen, ifsLen]
  omega

theorem arbEndFrom_bounds (raw : Nat) (rv : Bit) (rl : Nat) (bits : List Bit) (h : rl < stuffK) :
    raw + bits.length ≤ arbEndFrom raw rv rl bits ∧ 4 * arbEndFrom raw rv rl bits ≤ 4 * raw + 5 * bits.length + rl := by
  induction bits generalizing raw rv rl with
  | nil => simp [arbEndFrom]
  | cons b bs ih =>
    cases bs with
    | nil => simp only [arbEndFrom, List.length_cons, List.length_nil]; omega
    | cons b' bs =>
      simp only [stuffK] at h
      have hrun : (if 0 < rl ∧ b = rv then rl + 1 else 1) ≤ rl + 1 := by split <;> omega
      simp only [arbEndFrom]
      generalize (if 0 < rl ∧ b = rv then rl + 1 else 1) = rl' at hrun
      split
      · next hk =>
        have := ih (raw + 2) (!b) 1 (by decide)
        simp only [stuffK, List.length_cons] at *
        omega
      · next hk =>
        have := ih (raw + 1) b rl' (by omega)
        simp only [List.length_cons] at *
        omega

/-- The arbitration field is not empty and fits the four bits of `arb_end`. -/
theorem arbEnd_bounds (f : Frame) : 1 ≤ arbEnd f ∧ arbEnd f < 16 := by
  have hlen : ((dataRegion f).take (sofBits + idBits)).length = 12 := by
    rw [List.length_take, length_dataRegion]
    simp only [sofBits, idBits]
    omega
  have h := arbEndFrom_bounds 0 dominant 0 ((dataRegion f).take (sofBits + idBits)) (by decide)
  rw [hlen] at h
  simp only [arbEnd]
  omega

/-- What ENQ makes of a valid frame is a well-formed entry (R160). -/
theorem newEntry_wf (f : Frame) (h : frameValid f = true) : (newEntry f).wf := by
  have hstream : rawStream f = frameToBits f := if_pos h
  have harb : rawArbEnd f = arbEnd f := if_pos h
  refine ⟨h, hstream, ?_, ?_, Nat.zero_le _⟩
  · rw [newEntry_len, newEntry_stream, hstream, BitVec.toNat_ofNat]
    exact Nat.mod_eq_of_lt (length_frameToBits_lt f h)
  · rw [newEntry_arbEnd, newEntry_frame, harb, BitVec.toNat_ofNat]
    exact Nat.mod_eq_of_lt (arbEnd_bounds f).2

/-! ## Moving the cursor -/

/-- Only the cursor's bound depends on the cursor. -/
theorem TxEntry.wf_off {e : TxEntry} (h : e.wf) (v : BitVec 7) (hv : v.toNat ≤ e.stream.length) : { e with off := v }.wf := by
  obtain ⟨hframe, hstream, hlen, harb, -⟩ := h
  exact ⟨hframe, hstream, hlen, harb, hv⟩

theorem TxEntry.arbEnd_pos {e : TxEntry} (h : e.wf) : 1 ≤ e.arbEnd.toNat := by
  obtain ⟨-, -, -, harb, -⟩ := h
  rw [harb]
  exact (arbEnd_bounds e.frame).1

/-- The cursor does not wrap where a bit is left to write (R157). -/
theorem TxEntry.toNat_off_succ {e : TxEntry} (h : e.wf) {b : Bit} (hb : e.stream[e.off.toNat]? = some b) :
    (e.off + 1).toNat = e.off.toNat + 1 ∧ e.off.toNat + 1 ≤ e.stream.length := by
  obtain ⟨-, -, hlen, -, -⟩ := h
  have hlt := (List.getElem?_eq_some_iff.mp hb).1
  have hmax := e.len.isLt
  have hlt' : e.off.toNat + 1 < 2 ^ 7 := by omega
  exact ⟨toNat_add_one e.off hlt', hlt⟩

theorem TxEntry.wf_off_succ {e : TxEntry} (h : e.wf) {b : Bit} (hb : e.stream[e.off.toNat]? = some b) :
    { e with off := e.off + 1 }.wf := by
  obtain ⟨hoff, hle⟩ := e.toNat_off_succ h hb
  exact TxEntry.wf_off h _ (hoff.symm ▸ hle)

/-! ## The queue (R24 to R26) -/

/-- TxWrite on the head keeps the queue in order, in a state that sends: in Arbitration the cursor must stay within the arbitration
field (R157). -/
theorem Controller.queueWf_write {cfg : Config} {c c' : Controller} {h : TxEntry} {q : List TxEntry} {b : Bit}
    (hc : c.queueWf cfg) (hq : c.txq = h :: q) (hb : h.stream[h.off.toNat]? = some b)
    (hq' : c'.txq = { h with off := h.off + 1 } :: q) (hs : c'.sending)
    (harb : c'.state = CtlState.arbitration → h.off.toNat + 1 ≤ h.arbEnd.toNat) : c'.queueWf cfg := by
  obtain ⟨hwf, htail, -, -, -, hdepth⟩ := hc
  rw [hq] at hwf htail hdepth
  obtain ⟨hhead, hrest⟩ := List.forall_mem_cons.mp hwf
  have hoff := (TxEntry.toNat_off_succ hhead hb).1
  refine ⟨?_, by rwa [hq'], fun _ => ⟨by simp [hq'], ?_⟩, fun hn => absurd hs hn, by simp [hq'], by simpa [hq'] using hdepth⟩
  · rw [hq']
    exact List.forall_mem_cons.mpr ⟨TxEntry.wf_off_succ hhead hb, hrest⟩
  · simp only [hq', List.take_succ_cons, List.take_zero, List.mem_singleton, forall_eq, hoff]
    exact ⟨by omega, harb⟩

/-- A change of state with no frame on its way, before and after. -/
theorem Controller.queueWf_rest {cfg : Config} {c c' : Controller} (hc : c.queueWf cfg) (hs : ¬ c.sending)
    (hq : c'.txq = c.txq) (hs' : ¬ c'.sending) (hw : c'.state = CtlState.wait → c.txq ≠ []) : c'.queueWf cfg := by
  obtain ⟨hwf, htail, -, hrest, -, hdepth⟩ := hc
  rw [← hq] at hwf htail hrest hw hdepth
  exact ⟨hwf, htail, fun h => absurd h hs', fun _ => hrest hs, hw, hdepth⟩

/-- The lost head starts again, in a state that does not send and does not wait (R155). -/
theorem Controller.queueWf_release {cfg : Config} {c c' : Controller} {h : TxEntry} {q : List TxEntry} (hc : c.queueWf cfg)
    (hq : c.txq = h :: q) (hq' : c'.txq = { h with off := 0 } :: q) (hs' : ¬ c'.sending) (hw : c'.state ≠ CtlState.wait) :
    c'.queueWf cfg := by
  obtain ⟨hwf, htail, -, -, -, hdepth⟩ := hc
  rw [hq] at hwf htail hdepth
  obtain ⟨hhead, hrest⟩ := List.forall_mem_cons.mp hwf
  refine ⟨?_, by rwa [hq'], fun h => absurd h hs', fun _ => ?_, fun h => absurd h hw, by simpa [hq'] using hdepth⟩
  · rw [hq']
    exact List.forall_mem_cons.mpr ⟨TxEntry.wf_off hhead 0 (Nat.zero_le _), hrest⟩
  · rw [hq']
    exact List.forall_mem_cons.mpr ⟨rfl, htail⟩

/-- The sent head is gone, in a state that does not send and does not wait (R159). -/
theorem Controller.queueWf_pop {cfg : Config} {c c' : Controller} (hc : c.queueWf cfg) (hq' : c'.txq = c.txq.tail)
    (hs' : ¬ c'.sending) (hw : c'.state ≠ CtlState.wait) : c'.queueWf cfg := by
  obtain ⟨hwf, htail, -, -, -, hdepth⟩ := hc
  rw [← hq'] at htail
  refine ⟨fun e he => hwf e (List.mem_of_mem_tail (hq' ▸ he)), fun e he => htail e (List.mem_of_mem_tail he),
    fun h => absurd h hs', fun _ => htail, fun h => absurd h hw, ?_⟩
  cases hd : cfg.txqDepth with
  | none => rfl
  | some d =>
    simp only [hd, Option.all_some, decide_eq_true_eq] at hdepth ⊢
    rw [hq', List.length_tail]
    omega

/-- ENQ of a valid frame into a queue with room (R160). -/
theorem Controller.queueWf_push {cfg : Config} {c : Controller} {f : Frame} (hc : c.queueWf cfg) (hf : frameValid f = true)
    (hroom : queueFull cfg c = false) : (c.push (newEntry f)).queueWf cfg := by
  obtain ⟨hwf, htail, hsend, hrest, hwait, hdepth⟩ := hc
  have hpush (p : TxEntry → Prop) (l : List TxEntry) (hl : ∀ e ∈ l, p e) (hnew : p (newEntry f)) :
      ∀ e ∈ l ++ [newEntry f], p e := by
    simpa [or_imp, forall_and] using ⟨hl, hnew⟩
  refine ⟨hpush _ _ hwf (newEntry_wf f hf), ?_, fun hs => ?_, fun hs => hpush _ _ (hrest hs) rfl, fun _ => by simp, ?_⟩
  · cases hq : c.txq with
    | nil => simp [hq]
    | cons e q =>
      rw [hq] at htail
      simpa [hq] using hpush _ q htail rfl
  · obtain ⟨hne, hhead⟩ := hsend hs
    refine ⟨by simp, ?_⟩
    rwa [Controller.push_txq, List.take_append_of_le_length (List.length_pos_iff.mpr hne)]
  · cases hd : cfg.txqDepth with
    | none => rfl
    | some d =>
      simp only [queueFull, hd, decide_eq_false_iff_not] at hroom
      simp only [hd, Option.all_some, decide_eq_true_eq, Controller.push_txq, List.length_append, List.length_singleton] at hdepth ⊢
      omega

/-! ## The receive assembler (R27) -/

/-- A run in range grows in range, and a stuff bit is due exactly when it reaches 5 (R164). -/
theorem Assembler.run_order (a : Assembler) (b : Bit) (hs : a.skip = false) (hl : a.runLen.toNat < stuffK) :
    (a.run b).runLen.toNat ≤ stuffK ∧ ((a.run b).skip = true ↔ (a.run b).runLen.toNat = stuffK) := by
  have hle : (a.run b).runLen.toNat ≤ stuffK := by
    rw [Assembler.run_runLen]
    split
    · simp only [stuffK] at hl
      rw [toNat_add_one a.runLen (by omega), stuffK]
      omega
    · decide
  refine ⟨hle, ?_⟩
  rw [Assembler.run_skip, hs, Bool.false_or, decide_eq_true_eq]
  omega

theorem Assembler.runLen_lt_of_not_skip {a : Assembler} (h : a.wf) (hs : a.skip = false) : a.runLen.toNat < stuffK := by
  obtain ⟨-, -, -, -, hle, hskip⟩ := h
  have hne : a.runLen.toNat ≠ stuffK := fun he => by simp [hs] at hskip; exact hskip he
  omega

theorem slice_append_left {α : Type} (l r : List α) (a b : Nat) (hab : a ≤ b) (h : b ≤ l.length) :
    slice (l ++ r) a b = slice l a b := by
  unfold slice
  rw [List.drop_append_of_le_length (by omega), List.take_append_of_le_length (by rw [List.length_drop]; omega)]

theorem dlcOf_append (d e : List Bit) (h : headerBits ≤ d.length) : dlcOf (d ++ e) = dlcOf d := by
  rw [dlcOf, slice_append_left d e 12 16 (by decide) h, dlcOf]

/-- The DLC field at the 16th bit: three bits from the data and the bit itself. -/
theorem dlcOf_append_last (d : List Bit) (b : Bit) (h : d.length + 1 = headerBits) :
    dlcOf (d ++ [b]) = uval (slice d 12 15 ++ [b]) := by
  rw [headerBits_eq] at h
  unfold dlcOf slice
  rw [List.drop_append_of_le_length (by omega), List.take_of_length_le (by simp; omega),
    List.take_of_length_le (by simp; omega)]

/-! ### What the receive classes say (R87) -/

/-- The condition under which R87 gives each class. -/
def Assembler.classCondition (a : Assembler) (b : Bit) : RxClass → Prop
  | .data => a.inStuffed = true ∧ a.skip = false ∧ a.data.length + 1 ≠ headerBits
  | .skip => a.skip = true
  | .hdr => a.skip = false ∧ a.data.length + 1 = headerBits ∧ uval (slice a.data 12 15 ++ [b]) ≤ maxDlc
  | .hdrBad => a.skip = false ∧ a.data.length + 1 = headerBits ∧ maxDlc < uval (slice a.data 12 15 ++ [b])
  | .trail => a.inStuffed = false ∧ a.trl.toNat + 1 < trailerLen
  | .done => a.inStuffed = false ∧ trailerLen ≤ a.trl.toNat + 1 ∧ a.trlBad = false ∧ b = recessive
  | .badEof => a.inStuffed = false ∧ trailerLen ≤ a.trl.toNat + 1 ∧ ¬ (a.trlBad = false ∧ b = recessive)

theorem Assembler.classCondition_rxClass (a : Assembler) (b : Bit) : a.classCondition b (a.rxClass b) := by
  unfold Assembler.rxClass
  split
  · next hin =>
    split
    · next hs => exact hs
    · next hs =>
      have hs : a.skip = false := by simpa using hs
      split
      · next hl =>
        split
        · next hd => exact ⟨hs, hl, hd⟩
        · next hd => exact ⟨hs, hl, not_le.mp hd⟩
      · next hl => exact ⟨hin, hs, hl⟩
  · next hin =>
    have hin : a.inStuffed = false := by simpa using hin
    split
    · next ht => exact ⟨hin, ht⟩
    · next ht =>
      split
      · next hd => exact ⟨hin, not_lt.mp ht, hd⟩
      · next hd => exact ⟨hin, not_lt.mp ht, hd⟩

theorem Assembler.classCondition_of_rxClass {a : Assembler} {b : Bit} {k : RxClass} (h : a.rxClass b = k) : a.classCondition b k :=
  h ▸ a.classCondition_rxClass b

theorem Assembler.inStuffed_eq_false_iff (a : Assembler) :
    a.inStuffed = false ↔ a.hdr = true ∧ dataRegionLen a.dlc.toNat ≤ a.data.length ∧ a.skip = false := by
  simp [Assembler.inStuffed, and_assoc]

/-- After the header a bit of class DATA belongs to a region that is not complete. -/
theorem Assembler.length_lt_of_data {a : Assembler} {b : Bit} (h : a.rxClass b = .data) (hh : a.hdr = true) :
    a.data.length < dataRegionLen a.dlc.toNat := by
  obtain ⟨hin, hs, -⟩ := Assembler.classCondition_of_rxClass h
  simpa [Assembler.inStuffed, hh, hs] using hin

/-! ### The rules RX keep the order -/

theorem Assembler.wf_takeData {a : Assembler} {b : Bit} (h : a.wf) (hc : a.rxClass b = .data) : (a.takeData b).wf := by
  obtain ⟨-, hs, hlen⟩ := Assembler.classCondition_of_rxClass hc
  have hregion := Assembler.length_lt_of_data hc
  have hlt : a.runLen.toNat < stuffK := Assembler.runLen_lt_of_not_skip h hs
  have hrun := Assembler.run_order { a with data := a.data ++ [b] } b hs hlt
  obtain ⟨hbefore, hafter, htrail, htrl, -, -⟩ := h
  refine ⟨fun hh => ?_, fun hh => ?_, fun ht => ?_, by simpa using htrl, hrun⟩
  · rw [Assembler.takeData_hdr] at hh
    obtain ⟨hlt, ht, hb⟩ := hbefore hh
    exact ⟨by simp; omega, by simpa using ht, by simpa using hb⟩
  · rw [Assembler.takeData_hdr] at hh
    obtain ⟨hge, -, hdlc, hmax⟩ := hafter hh
    have hlt := hregion hh
    simp only [Assembler.takeData_data, Assembler.takeData_dlc, List.length_append, List.length_singleton, dlcOf_append _ _ hge]
    exact ⟨by omega, by omega, hdlc, hmax⟩
  · rw [Assembler.takeData_trl, Assembler.takeData_trlBad] at ht
    cases hh : a.hdr with
    | false =>
      obtain ⟨-, hz, hb⟩ := hbefore hh
      exact absurd ht (by simp [hz, hb])
    | true => exact absurd (htrail ht).1 (hregion hh).ne

theorem Assembler.wf_takeSkip {a : Assembler} (b : Bit) (h : a.wf) (hs : a.skip = true) : (a.takeSkip b).wf := by
  obtain ⟨hbefore, hafter, htrail, htrl, -, -⟩ := h
  exact ⟨hbefore, hafter, fun ht => absurd (htrail ht).2 (by simp [hs]), htrl, by simp [stuffK], by simp [stuffK]⟩

theorem Assembler.wf_takeHdr {a : Assembler} {b : Bit} (h : a.wf) (hc : a.rxClass b = .hdr) : (a.takeHdr b).wf := by
  obtain ⟨hs, hlen, hdlc⟩ := Assembler.classCondition_of_rxClass hc
  have hlt : a.runLen.toNat < stuffK := Assembler.runLen_lt_of_not_skip h hs
  have hrun := Assembler.run_order { a with data := a.data ++ [b] } b hs hlt
  obtain ⟨hbefore, hafter, -, -, -, -⟩ := h
  have hh : a.hdr = false := by
    by_contra hh
    have := (hafter (by simpa using hh)).1
    omega
  obtain ⟨-, htrl, hbad⟩ := hbefore hh
  have hreg : (a.takeHdr b).dlc.toNat = dlcOf (a.takeHdr b).data := by
    simp only [Assembler.takeHdr, Assembler.takeData_data, dlcOf_append_last _ _ hlen, BitVec.toNat_ofNat]
    exact Nat.mod_eq_of_lt (lt_of_le_of_lt hdlc (by decide))
  have hmax : (a.takeHdr b).dlc.toNat ≤ maxDlc := by
    rw [hreg]
    simpa only [Assembler.takeHdr, Assembler.takeData_data, dlcOf_append_last _ _ hlen] using hdlc
  have hdata : (a.takeHdr b).data.length = headerBits := by simpa [Assembler.takeHdr] using hlen
  have htrl' : (a.takeHdr b).trl = 0 := by simpa [Assembler.takeHdr] using htrl
  have hbad' : (a.takeHdr b).trlBad = false := by simpa [Assembler.takeHdr] using hbad
  refine ⟨fun h => absurd h (by simp [Assembler.takeHdr]), fun _ => ⟨hdata.ge, ?_, hreg, hmax⟩,
    fun ht => absurd ht (by simp [htrl', hbad']), by rw [htrl']; decide, hrun⟩
  rw [hdata, dataRegionLen]
  omega

theorem Assembler.wf_takeTrail {a : Assembler} {b : Bit} (h : a.wf) (hc : a.rxClass b = .trail) : (a.takeTrail b).wf := by
  obtain ⟨hin, ht⟩ := Assembler.classCondition_of_rxClass hc
  obtain ⟨hh, hge, hs⟩ := a.inStuffed_eq_false_iff.mp hin
  obtain ⟨-, hafter, -, -, hrun⟩ := h
  have hle := (hafter hh).2.1
  refine ⟨fun h => absurd (hh.symm.trans h) (by decide), hafter, fun _ => ⟨le_antisymm hle hge, hs⟩, ?_, hrun⟩
  rw [trailerLen_eq] at ht ⊢
  rw [Assembler.takeTrail_trl, toNat_add_one a.trl (by omega)]
  exact ht

theorem Assembler.wf_reset : Assembler.reset.wf := by decide

theorem Assembler.wf_start_dominant : (Assembler.start dominant).wf := by decide

/-! ### Preloading (R166) -/

/-- Before the 16th bit only RX.DATA and RX.SKIP are selected. -/
theorem Assembler.rxClass_of_short {a : Assembler} {b : Bit} (hh : a.hdr = false) (hlen : a.data.length + 1 < headerBits) :
    a.rxClass b = if a.skip then .skip else .data := by
  have hin : a.inStuffed = true := by simp [Assembler.inStuffed, hh]
  simp [Assembler.rxClass, hin, hlen.ne]

/-- An assembler fed fewer raw bits than the header has stays in order. -/
theorem Assembler.wf_foldl_feed (seen : List Bit) (a : Assembler) (h : a.wf) (hh : a.hdr = false)
    (hlen : a.data.length + seen.length < headerBits) : (seen.foldl Assembler.feed a).wf := by
  induction seen generalizing a with
  | nil => exact h
  | cons b bs ih =>
    rw [List.length_cons] at hlen
    have hclass := Assembler.rxClass_of_short (b := b) hh (by omega)
    rw [List.foldl_cons]
    cases hs : a.skip with
    | true =>
      rw [hs, if_pos rfl] at hclass
      have hfeed : a.feed b = a.takeSkip b := by simp [Assembler.feed, hclass]
      rw [hfeed]
      exact ih _ (Assembler.wf_takeSkip b h hs) hh (by simp; omega)
    | false =>
      rw [hs, if_neg (by decide)] at hclass
      have hfeed : a.feed b = a.takeData b := by simp [Assembler.feed, hclass]
      rw [hfeed]
      exact ih _ (Assembler.wf_takeData h hclass) (by simpa using hh) (by simp; omega)

/-- The raw bits of an arbitration field leave the assembler in order. -/
theorem Assembler.wf_preload (seen : List Bit) (h : seen.length < headerBits) : (Assembler.preload seen).wf :=
  Assembler.wf_foldl_feed seen _ Assembler.wf_reset rfl (by simpa [Assembler.reset] using h)

end Sys2Proof.Machine
end

section
/-! Which registers a controller has when a row of R84 or R85 is selected (30_encoding R84 to R87), and that the row's operation then
keeps the controller in good order (42_controller R143 to R173). -/
namespace Sys2Proof.Machine

/-! ## The fields of a CTL word (R83, R84) -/

/-- What row `i` of R84 fixes in the fields S, N, B and C of a word with H = 0, as far as the invariant rests on it. -/
def ctlFields (st : BitVec 3) (n : BitVec 2) (b : Bit) (c : BitVec 3) : Instr → Bool
  | .ctlBadState5 .. | .ctlBadState67 .. | .ctlBadStateRxc .. | .ctlMulti .. | .ctlNobit .. => true
  | .idleSof _ => st == CtlState.idle
  | .idleStart _ => st == CtlState.idle && n == 1#2 && bitAt c 2
  | .idleStay _ => true
  | .waitSof _ | .waitGo _ => st == CtlState.wait
  | .waitCount _ => st == CtlState.wait && n == 1#2 && !bitAt c 2
  | .arbMatch .. => st == CtlState.arbitration && n == 1#2 && !bitAt c 1
  | .arbWon .. | .arbLost _ => st == CtlState.arbitration
  | .arbBusfault _ => true
  | .txNext .. | .txDone .. => st == CtlState.transmit
  | .rxData x => st == CtlState.receive && n == 1#2 && x == b && c == RxClass.data.code
  | .rxSkip x => st == CtlState.receive && n == 1#2 && x == b && c == RxClass.skip.code
  | .rxHdr x => st == CtlState.receive && n == 1#2 && x == b && c == RxClass.hdr.code
  | .rxTrail x => st == CtlState.receive && n == 1#2 && x == b && c == RxClass.trail.code
  | .rxDone _ => st == CtlState.receive
  | .rxHdrbad _ | .rxBadeof _ => true
  | _ => false

theorem ctlFields_of_firstMatch (st : BitVec 3) (n : BitVec 2) (b : Bit) (c : BitVec 3) (i : Instr)
    (h : firstMatch ctlRows (BitVec.ofBool false ++ st ++ n ++ BitVec.ofBool b ++ c) = some i) : ctlFields st n b c i = true := by
  have hall : ∀ (st : BitVec 3) (n : BitVec 2) (b : Bit) (c : BitVec 3),
      (firstMatch ctlRows (BitVec.ofBool false ++ st ++ n ++ BitVec.ofBool b ++ c)).all (ctlFields st n b c) = true := by
    decide +kernel
  have hi := hall st n b c
  rwa [h] at hi

/-- With H = 1 only CTL.HALTED is selected (R142). -/
theorem ctlHalted_of_firstMatch (st : BitVec 3) (n : BitVec 2) (b : Bit) (c : BitVec 3) (i : Instr)
    (h : firstMatch ctlRows (BitVec.ofBool true ++ st ++ n ++ BitVec.ofBool b ++ c) = some i) :
    ∃ st' n' b' c', i = .ctlHalted st' n' b' c' := by
  have hrow : ∀ (st : BitVec 3) (n : BitVec 2) (b : Bit) (c : BitVec 3),
      (BitVec.ofBool true ++ st ++ n ++ BitVec.ofBool b ++ c) &&& 0b1000000000#10 == 0b1000000000#10 := by
    decide +kernel
  have hfirst := (if_pos (hrow st n b c)).symm.trans h
  exact ⟨_, _, _, _, (Option.some.inj hfirst).symm⟩

/-- A controller's word; field C is the condition where the system is not halted and one bit was delivered (R83). -/
theorem ctlSelector_word (halted : Bool) (nd : Node) (w : BitVec 10) (h : ctlSelector halted nd = .ok w) :
    ∃ c, w = BitVec.ofBool halted ++ nd.ctl.state ++ countField nd.inp.ctlRxBit ++ BitVec.ofBool (bitField nd.inp.ctlRxBit) ++ c ∧
      (halted = false → countField nd.inp.ctlRxBit = 1#2 → ctlCond nd.ctl (bitField nd.inp.ctlRxBit) = .ok c) := by
  unfold ctlSelector at h
  split at h
  · next b hb =>
    obtain ⟨x, hx⟩ : ∃ x, nd.inp.ctlRxBit = [x] := by
      unfold theBit at hb
      split at hb
      · next x hx => exact ⟨x, hx⟩
      · cases hb
    obtain rfl : x = b := by simpa [theBit, hx] using hb
    split at h
    · next c hc =>
      cases h
      exact ⟨c, rfl, fun _ _ => by rwa [hx]⟩
    · cases h
  · next hone =>
    cases h
    refine ⟨0, rfl, fun hh hn => ?_⟩
    unfold countField at hn
    split at hn
    · cases hn
    · next x hx => exact absurd (by rw [hx]; rfl) (hone x hh)
    · cases hn

/-! ## The registers a selected row of R84 speaks of -/

/-- What the condition of row `i` says of the controller's registers (R86, R87), as far as the invariant rests on it. -/
def Controller.enables (c : Controller) : Instr → Prop
  | .ctlBadState5 .. | .ctlBadState67 .. | .ctlBadStateRxc .. | .ctlMulti .. | .ctlNobit .. => True
  | .idleSof _ => c.state = CtlState.idle
  | .idleStart _ => c.state = CtlState.idle ∧ c.txq ≠ []
  | .idleStay _ => True
  | .waitSof _ | .waitGo _ => c.state = CtlState.wait
  | .waitCount _ => c.state = CtlState.wait ∧ c.wcnt.toNat < waitThreshold
  | .arbMatch .. => c.state = CtlState.arbitration ∧ ∀ h ∈ c.txq.take 1, h.off.toNat ≠ h.arbEnd.toNat
  | .arbWon .. | .arbLost _ => c.state = CtlState.arbitration
  | .arbBusfault _ => True
  | .txNext .. | .txDone .. => c.state = CtlState.transmit
  | .rxData b => c.state = CtlState.receive ∧ c.rx.rxClass b = .data
  | .rxSkip b => c.state = CtlState.receive ∧ c.rx.rxClass b = .skip
  | .rxHdr b => c.state = CtlState.receive ∧ c.rx.rxClass b = .hdr
  | .rxTrail b => c.state = CtlState.receive ∧ c.rx.rxClass b = .trail
  | .rxDone _ => c.state = CtlState.receive
  | .rxHdrbad _ | .rxBadeof _ => True
  | _ => False

theorem bitAt_bits3_two (x y z : Bit) : bitAt (bits3 x y z) 2 = x := by revert x y z; decide

theorem bitAt_bits3_one (x y z : Bit) : bitAt (bits3 x y z) 1 = y := by revert x y z; decide

theorem RxClass.code_injective (x y : RxClass) (h : x.code = y.code) : x = y := by
  revert h; cases x <;> cases y <;> decide

theorem ctlCond_idle (c : Controller) (b : Bit) (x : BitVec 3) (hs : c.state = CtlState.idle) (h : ctlCond c b = .ok x) :
    bitAt x 2 = condQ c := by
  rw [ctlCond, if_pos hs] at h
  cases h
  exact bitAt_bits3_two _ _ _

theorem ctlCond_wait (c : Controller) (b : Bit) (x : BitVec 3) (hs : c.state = CtlState.wait) (h : ctlCond c b = .ok x) :
    bitAt x 2 = condC c := by
  rw [ctlCond, hs, if_neg (by decide), if_pos rfl] at h
  cases h
  exact bitAt_bits3_two _ _ _

theorem ctlCond_arbitration (c : Controller) (b : Bit) (x : BitVec 3) (hs : c.state = CtlState.arbitration)
    (h : ctlCond c b = .ok x) : ∀ e ∈ c.txq.take 1, bitAt x 1 = condF e := by
  rw [ctlCond, hs, if_neg (by decide), if_neg (by decide), if_pos rfl, condArb] at h
  split at h
  · cases h
  · next e q hq =>
    split at h
    · cases h
    · cases h
      simp [hq, bitAt_bits3_one]

theorem ctlCond_receive (c : Controller) (b : Bit) (x : BitVec 3) (hs : c.state = CtlState.receive) (h : ctlCond c b = .ok x) :
    x = (c.rx.rxClass b).code := by
  rw [ctlCond, hs, if_neg (by decide), if_neg (by decide), if_neg (by decide), if_neg (by decide), if_pos rfl] at h
  cases h
  rfl

/-- The receive class is that of the word's field C, whatever class it is. -/
theorem rxClass_of_fields (ctl : Controller) (n : BitVec 2) (b x : Bit) (c : BitVec 3) (k : RxClass)
    (hc : n = 1#2 → ctlCond ctl b = .ok c)
    (h : (ctl.state == CtlState.receive && n == 1#2 && x == b && c == k.code) = true) :
    ctl.state = CtlState.receive ∧ ctl.rx.rxClass x = k := by
  simp only [Bool.and_eq_true, beq_iff_eq] at h
  obtain ⟨⟨⟨hs, hn⟩, rfl⟩, hk⟩ := h
  exact ⟨hs, RxClass.code_injective _ _ ((ctlCond_receive ctl x c hs (hc hn)).symm.trans hk)⟩

/-- The fields of the word say what the registers are. -/
theorem enables_of_ctlFields (ctl : Controller) (n : BitVec 2) (b : Bit) (c : BitVec 3) (i : Instr)
    (hc : n = 1#2 → ctlCond ctl b = .ok c) (h : ctlFields ctl.state n b c i = true) : ctl.enables i := by
  cases i with
  | ctlBadState5 | ctlBadState67 | ctlBadStateRxc | ctlMulti | ctlNobit | idleStay | arbBusfault | rxHdrbad | rxBadeof =>
    exact trivial
  | idleSof | waitSof | waitGo | arbWon | arbLost | txNext | txDone | rxDone => exact eq_of_beq h
  | idleStart =>
    simp only [ctlFields, Bool.and_eq_true, beq_iff_eq] at h
    obtain ⟨⟨hs, hn⟩, hq⟩ := h
    rw [ctlCond_idle ctl b c hs (hc hn), condQ] at hq
    exact ⟨hs, by simpa using hq⟩
  | waitCount =>
    simp only [ctlFields, Bool.and_eq_true, beq_iff_eq] at h
    obtain ⟨⟨hs, hn⟩, hw⟩ := h
    rw [ctlCond_wait ctl b c hs (hc hn), condC] at hw
    exact ⟨hs, by simpa using hw⟩
  | arbMatch =>
    simp only [ctlFields, Bool.and_eq_true, beq_iff_eq] at h
    obtain ⟨⟨hs, hn⟩, hf⟩ := h
    refine ⟨hs, fun e he => ?_⟩
    rw [ctlCond_arbitration ctl b c hs (hc hn) e he, condF] at hf
    simpa using hf
  | rxData | rxSkip | rxHdr | rxTrail => exact rxClass_of_fields ctl n b _ c _ hc h
  | _ => cases h

/-! ## What an operation of a controller leaves behind -/

/-- After an operation of the controller of `nd`, whose turn it is: nothing has changed, or the controller is in good order with the
same FAULT, or it is in good order and has raised a fault. -/
inductive Kept (s : State) (nd : Node) : State → Prop where
  | same : Kept s nd s
  | write (nd' : Node) (hwf : nd'.ctl.wf s.cfg) (hf : nd'.ctl.fault = nd.ctl.fault) : Kept s nd (s.putNode nd')
  | raise (nd' : Node) (hwf : nd'.ctl.wf s.cfg) : Kept s nd (s.putNode nd').endTurn

theorem noEffect_kept {s t : State} (nd : Node) (h : noEffect s = .next t) : Kept s nd t := by
  cases h
  exact .same

theorem withNode_kept {s t : State} {nd : Node} (hn : s.node? = some nd) (k : Node → Result) (h : withNode s k = .next t)
    (hk : k nd = .next t → Kept s nd t) : Kept s nd t := by
  rw [withNode_of_node s nd k hn] at h
  exact hk h

theorem putNode_kept {s t : State} {nd nd' : Node} (h : (.next (s.putNode nd') : Result) = .next t) (hwf : nd'.ctl.wf s.cfg)
    (hf : nd'.ctl.fault = nd.ctl.fault) : Kept s nd t := by
  cases h
  exact .write _ hwf hf

/-- `raise` keeps the order: what it says of the assembler it says only of a controller without a fault. -/
theorem raiseCtl_kept {s t : State} {nd nd' : Node} (k : FaultKind) (info : Nat) (h : raiseCtl s nd' k info = .next t)
    (hst : nd'.ctl.stateWf) (hq : nd'.ctl.queueWf s.cfg) : Kept s nd t := by
  cases h
  exact .raise _ ⟨hst, hq, fun hf => absurd hf (by simp)⟩

/-! ### The controller after each kind of register write -/

theorem Controller.not_sending_idle {c : Controller} (h : c.state = CtlState.idle) : ¬ c.sending := by
  rw [Controller.sending, h]; decide

theorem Controller.not_sending_wait {c : Controller} (h : c.state = CtlState.wait) : ¬ c.sending := by
  rw [Controller.sending, h]; decide

theorem Controller.not_sending_receive {c : Controller} (h : c.state = CtlState.receive) : ¬ c.sending := by
  rw [Controller.sending, h]; decide

theorem Controller.stateWf_of_wcnt_zero {c : Controller} (hs : c.state.toNat ≤ 4) (hw : c.wcnt = 0) : c.stateWf :=
  ⟨hs, by rw [hw]; decide, fun _ => hw⟩

/-- WCNT is 0 outside WaitForBusIdle (R23). -/
theorem Controller.wcnt_zero {cfg : Config} {c : Controller} (hc : c.wf cfg) (hs : c.state ≠ CtlState.wait) : c.wcnt = 0 := by
  obtain ⟨⟨-, -, hw⟩, -⟩ := hc
  exact hw hs

theorem Controller.rxWf_receive {c : Controller} (hs : c.state = CtlState.receive) (ha : c.rx.wf) : c.rxWf :=
  ⟨fun _ => ha, fun h => absurd hs h⟩

theorem Controller.rxWf_reset {c : Controller} (hs : c.state ≠ CtlState.receive) (ha : c.rx = Assembler.reset) : c.rxWf :=
  ⟨fun h => absurd h hs, fun _ => ha⟩

theorem Controller.queueWf_of_wf {cfg : Config} {c : Controller} (hc : c.wf cfg) : c.queueWf cfg := by
  obtain ⟨-, hqueue, -⟩ := hc
  exact hqueue

/-- In Arbitration at most the arbitration field is sent (R26). -/
theorem Controller.off_le_arbEnd {cfg : Config} {c : Controller} (hc : c.wf cfg) (hs : c.state = CtlState.arbitration) :
    ∀ e ∈ c.txq.take 1, e.off.toNat ≤ e.arbEnd.toNat := by
  obtain ⟨-, ⟨-, -, hsend, -⟩, -⟩ := hc
  obtain ⟨-, hhead⟩ := hsend (.inl hs)
  exact fun e he => (hhead e he).2 hs

/-- In WaitForBusIdle no bit of the head is sent, and its arbitration field is not empty (R24, R25). -/
theorem Controller.off_succ_le_arbEnd {cfg : Config} {c : Controller} (hc : c.wf cfg) (hs : c.state = CtlState.wait) :
    ∀ e ∈ c.txq.take 1, e.off.toNat + 1 ≤ e.arbEnd.toNat := by
  obtain ⟨-, ⟨hwf, -, -, hrest, -⟩, -⟩ := hc
  intro e he
  have he := List.mem_of_mem_take he
  rw [hrest (Controller.not_sending_wait hs) e he]
  exact TxEntry.arbEnd_pos (hwf e he)

theorem Controller.rx_wf {cfg : Config} {c : Controller} (hc : c.wf cfg) (hl : c.fault.latched = false)
    (hs : c.state = CtlState.receive) : c.rx.wf := by
  obtain ⟨-, -, hrx⟩ := hc
  exact (hrx hl).1 hs

theorem Controller.rx_reset {cfg : Config} {c : Controller} (hc : c.wf cfg) (hl : c.fault.latched = false)
    (hs : c.state ≠ CtlState.receive) : c.rx = Assembler.reset := by
  obtain ⟨-, -, hrx⟩ := hc
  exact (hrx hl).2 hs

/-- Someone else's SOF: the controller receives, with its queue as it was (R146, R149). -/
theorem Controller.wf_startReceive {cfg : Config} {c c' : Controller} (hc : c.wf cfg) (hs : ¬ c.sending) (hq : c'.txq = c.txq)
    (hst : c'.state = CtlState.receive) (hw : c'.wcnt = 0) (hrx : c'.rx = Assembler.start dominant) : c'.wf cfg := by
  have hwait : c'.state ≠ CtlState.wait := by rw [hst]; decide
  refine ⟨Controller.stateWf_of_wcnt_zero (by rw [hst]; decide) hw, ?_, fun _ => Controller.rxWf_receive hst ?_⟩
  · exact Controller.queueWf_rest (Controller.queueWf_of_wf hc) hs hq (Controller.not_sending_receive hst) fun h => absurd h hwait
  · rw [hrx]
    exact Assembler.wf_start_dominant

/-- A frame waits for the bus (R147). -/
theorem Controller.wf_startWait {cfg : Config} {c : Controller} (hc : c.wf cfg) (hs : c.state = CtlState.idle) (hne : c.txq ≠ []) :
    { c with state := CtlState.wait, wcnt := 0 }.wf cfg := by
  have hrx (hl : c.fault.latched = false) : c.rx = Assembler.reset := Controller.rx_reset hc hl (by rw [hs]; decide)
  refine ⟨Controller.stateWf_of_wcnt_zero (by decide : CtlState.wait.toNat ≤ 4) rfl, ?_,
    fun hl => Controller.rxWf_reset (by decide : CtlState.wait ≠ CtlState.receive) (hrx hl)⟩
  exact Controller.queueWf_rest (Controller.queueWf_of_wf hc) (Controller.not_sending_idle hs) rfl
    (Controller.not_sending_wait rfl) fun _ => hne

/-- One more recessive bit, while the threshold is not reached (R150). -/
theorem Controller.wf_count {cfg : Config} {c : Controller} (hc : c.wf cfg) (hs : c.state = CtlState.wait)
    (hlt : c.wcnt.toNat < waitThreshold) : { c with wcnt := c.wcnt + 1 }.wf cfg := by
  obtain ⟨⟨hstate, -, -⟩, hqueue, hrx⟩ := hc
  rw [waitThreshold_eq] at hlt
  have hle : (c.wcnt + 1).toNat ≤ waitThreshold := by
    rw [toNat_add_one c.wcnt (by omega), waitThreshold_eq]
    exact hlt
  exact ⟨⟨hstate, hle, fun h => absurd hs h⟩, hqueue, hrx⟩

/-- The assembler moves on during a reception (R167 to R171). -/
theorem Controller.wf_setRx {cfg : Config} {c : Controller} {a : Assembler} (hc : c.wf cfg) (hs : c.state = CtlState.receive)
    (ha : a.wf) : { c with rx := a }.wf cfg := by
  obtain ⟨hstate, hqueue, -⟩ := hc
  exact ⟨hstate, hqueue, fun _ => Controller.rxWf_receive hs ha⟩

/-- A frame is received; the assembler is reset (R172). -/
theorem Controller.wf_endReceive {cfg : Config} {c : Controller} (hc : c.wf cfg) (hs : c.state = CtlState.receive) :
    { c with state := CtlState.idle, rx := Assembler.reset }.wf cfg := by
  have hw : c.wcnt = 0 := Controller.wcnt_zero hc (by rw [hs]; decide)
  refine ⟨Controller.stateWf_of_wcnt_zero (by decide : CtlState.idle.toNat ≤ 4) hw, ?_,
    fun _ => Controller.rxWf_reset (by decide : CtlState.idle ≠ CtlState.receive) rfl⟩
  exact Controller.queueWf_rest (Controller.queueWf_of_wf hc) (Controller.not_sending_receive hs) rfl
    (Controller.not_sending_idle rfl) fun h => absurd h (by decide : CtlState.idle ≠ CtlState.wait)

/-- The last bit is sent; the head is popped (R159). -/
theorem Controller.wf_endSend {cfg : Config} {c : Controller} (hc : c.wf cfg) (hs : c.state = CtlState.transmit) :
    { c.pop with state := CtlState.idle }.wf cfg := by
  have hw : c.wcnt = 0 := Controller.wcnt_zero hc (by rw [hs]; decide)
  have hrx (hl : c.fault.latched = false) : c.rx = Assembler.reset := Controller.rx_reset hc hl (by rw [hs]; decide)
  refine ⟨Controller.stateWf_of_wcnt_zero (by decide : CtlState.idle.toNat ≤ 4) hw, ?_,
    fun hl => Controller.rxWf_reset (by decide : CtlState.idle ≠ CtlState.receive) (hrx hl)⟩
  exact Controller.queueWf_pop (Controller.queueWf_of_wf hc) rfl (Controller.not_sending_idle rfl)
    (by decide : CtlState.idle ≠ CtlState.wait)

/-- Arbitration is lost: at most the arbitration field has been sent, so what the assembler is preloaded with is shorter than the
header (R155, R166). -/
theorem Controller.wf_lose {cfg : Config} {c : Controller} {h : TxEntry} {q : List TxEntry} {i : Nat} (hc : c.wf cfg)
    (hs : c.state = CtlState.arbitration) (hq : c.txq = h :: q) (hi : lastIndex h = .ok i) :
    { c.setHeadOff 0 with state := CtlState.receive, rx := Assembler.preload (h.stream.take i ++ [dominant]) }.wf cfg := by
  have hw : c.wcnt = 0 := Controller.wcnt_zero hc (by rw [hs]; decide)
  have hoff := Controller.off_le_arbEnd hc hs h (by simp [hq])
  have hshort : (h.stream.take i ++ [dominant]).length < headerBits := by
    have hlast := lastIndex_ok h i hi
    have harb := h.arbEnd.isLt
    rw [headerBits_eq, List.length_append, List.length_take, List.length_singleton]
    omega
  rw [Controller.setHeadOff_cons c 0 h q hq]
  refine ⟨Controller.stateWf_of_wcnt_zero (by decide : CtlState.receive.toNat ≤ 4) hw, ?_,
    fun _ => Controller.rxWf_receive rfl (Assembler.wf_preload _ hshort)⟩
  exact Controller.queueWf_release (Controller.queueWf_of_wf hc) hq rfl (Controller.not_sending_receive rfl)
    (by decide : CtlState.receive ≠ CtlState.wait)

/-- A frame is enqueued (R160). -/
theorem Controller.wf_push {cfg : Config} {c : Controller} {f : Frame} (hc : c.wf cfg) (hf : frameValid f = true)
    (hroom : queueFull cfg c = false) : (c.push (newEntry f)).wf cfg := by
  obtain ⟨hstate, hqueue, hrx⟩ := hc
  exact ⟨hstate, Controller.queueWf_push hqueue hf hroom, hrx⟩

/-! ### The rows of R84 and R85 -/

/-- TxWrite by a controller that did not receive, in a state that sends and with WCNT 0 (R157). -/
theorem txWrite_kept {s t : State} {nd : Node} {c : Controller} (hwf : nd.ctl.wf s.cfg) (h : txWrite s { nd with ctl := c } = .next t)
    (hq : c.txq = nd.ctl.txq) (hrx : c.rx = nd.ctl.rx) (hf : c.fault = nd.ctl.fault) (hr : nd.ctl.state ≠ CtlState.receive)
    (hs : c.sending) (hw : c.wcnt = 0)
    (harb : c.state = CtlState.arbitration → ∀ e ∈ nd.ctl.txq.take 1, e.off.toNat + 1 ≤ e.arbEnd.toNat) : Kept s nd t := by
  obtain ⟨e, q, b, hq', hb, rfl⟩ := txWrite_next s t _ h
  rw [hq] at hq'
  refine .write _ ⟨⟨?_, by simp [hw], fun _ => hw⟩, ?_, fun hl => ⟨fun hs' => ?_, fun _ => ?_⟩⟩ hf
  · rcases hs with hs | hs <;> simp [hs]
  · exact Controller.queueWf_write (Controller.queueWf_of_wf hwf) hq' hb rfl hs fun ha => harb ha e (by simp [hq'])
  · rcases hs with hs | hs <;> exact absurd (hs.symm.trans hs') (by decide)
  · exact hrx.trans (Controller.rx_reset hwf (hf ▸ hl) hr)

/-- Every operation that a row of R84 selects, other than CTL.HALTED, keeps a controller in good order that has not faulted. -/
theorem exec_ctl_kept (i : Instr) {s t : State} {nd : Node} (hn : s.node? = some nd) (hwf : nd.ctl.wf s.cfg)
    (hl : nd.ctl.fault.latched = false) (hi : nd.ctl.enables i) (h : exec i s = .next t) : Kept s nd t := by
  have ⟨hstate, hqueue, _⟩ := hwf
  cases i with
  | ctlNobit | idleStay => exact noEffect_kept nd h
  | ctlBadState5 | ctlBadState67 | ctlBadStateRxc | ctlMulti | rxHdrbad | rxBadeof =>
    exact withNode_kept hn _ h fun hk => raiseCtl_kept _ _ hk hstate hqueue
  | arbBusfault =>
    refine withNode_kept hn _ h fun hk => ?_
    obtain ⟨e, q, hq, hk⟩ := withHead_next nd t _ hk
    cases hi : lastIndex e with
    | error => simp [hi] at hk
    | ok i => exact raiseCtl_kept _ _ (by simpa [hi] using hk) hstate hqueue
  | idleSof =>
    have hw : nd.ctl.wcnt = 0 := Controller.wcnt_zero hwf (by rw [hi]; decide)
    exact withNode_kept hn _ h fun hk =>
      putNode_kept hk (Controller.wf_startReceive hwf (Controller.not_sending_idle hi) rfl rfl hw rfl) rfl
  | waitSof =>
    exact withNode_kept hn _ h fun hk =>
      putNode_kept hk (Controller.wf_startReceive hwf (Controller.not_sending_wait hi) rfl rfl rfl rfl) rfl
  | idleStart => exact withNode_kept hn _ h fun hk => putNode_kept hk (Controller.wf_startWait hwf hi.1 hi.2) rfl
  | waitCount => exact withNode_kept hn _ h fun hk => putNode_kept hk (Controller.wf_count hwf hi.1 hi.2) rfl
  | rxData =>
    have ha := Assembler.wf_takeData (Controller.rx_wf hwf hl hi.1) hi.2
    exact withNode_kept hn _ h fun hk => putNode_kept hk (Controller.wf_setRx hwf hi.1 ha) rfl
  | rxSkip b =>
    have ha := Assembler.wf_takeSkip b (Controller.rx_wf hwf hl hi.1) (Assembler.classCondition_of_rxClass hi.2)
    exact withNode_kept hn _ h fun hk => putNode_kept hk (Controller.wf_setRx hwf hi.1 ha) rfl
  | rxHdr =>
    have ha := Assembler.wf_takeHdr (Controller.rx_wf hwf hl hi.1) hi.2
    exact withNode_kept hn _ h fun hk => putNode_kept hk (Controller.wf_setRx hwf hi.1 ha) rfl
  | rxTrail =>
    have ha := Assembler.wf_takeTrail (Controller.rx_wf hwf hl hi.1) hi.2
    exact withNode_kept hn _ h fun hk => putNode_kept hk (Controller.wf_setRx hwf hi.1 ha) rfl
  | rxDone =>
    refine withNode_kept hn _ h fun hk => ?_
    cases hf : bitsToFrame nd.ctl.rx.data with
    | error => simp [hf] at hk
    | ok f =>
      rw [hf] at hk
      exact putNode_kept hk (Controller.wf_endReceive hwf hi) rfl
  | txDone =>
    refine withNode_kept hn _ h fun hk => ?_
    obtain ⟨e, q, -, hk⟩ := withHead_next nd t _ hk
    exact putNode_kept hk (Controller.wf_endSend hwf hi) rfl
  | arbLost =>
    refine withNode_kept hn _ h fun hk => ?_
    obtain ⟨e, q, hq, hk⟩ := withHead_next nd t _ hk
    cases hlast : lastIndex e with
    | error => simp [hlast] at hk
    | ok i =>
      rw [hlast] at hk
      exact putNode_kept hk (Controller.wf_lose hwf hi hq hlast) (Controller.setHeadOff_fault nd.ctl 0)
  | waitGo =>
    exact withNode_kept hn _ h fun hk =>
      txWrite_kept hwf hk rfl rfl rfl (by rw [hi]; decide) (.inl rfl) rfl fun _ => Controller.off_succ_le_arbEnd hwf hi
  | arbMatch =>
    have hw : nd.ctl.wcnt = 0 := Controller.wcnt_zero hwf (by rw [hi.1]; decide)
    exact withNode_kept hn _ h fun hk =>
      txWrite_kept hwf hk rfl rfl rfl (by rw [hi.1]; decide) (.inl hi.1) hw fun _ e he =>
        lt_of_le_of_ne (Controller.off_le_arbEnd hwf hi.1 e he) (hi.2 e he)
  | arbWon =>
    have hw : nd.ctl.wcnt = 0 := Controller.wcnt_zero hwf (by rw [hi]; decide)
    exact withNode_kept hn _ h fun hk =>
      txWrite_kept hwf hk rfl rfl rfl (by rw [hi]; decide) (.inr rfl) hw
        fun ha => absurd ha (by decide : CtlState.transmit ≠ CtlState.arbitration)
  | txNext =>
    have hw : nd.ctl.wcnt = 0 := Controller.wcnt_zero hwf (by rw [hi]; decide)
    exact withNode_kept hn _ h fun hk =>
      txWrite_kept hwf hk rfl rfl rfl (by rw [hi]; decide) (.inr hi) hw fun ha => absurd (hi.symm.trans ha) (by decide)
  | _ => exact hi.elim

/-- The rows of R85, with what ENQ demands: a valid frame and room for it. -/
def hostFields (valid full : Bit) : Instr → Bool
  | .enqHalted _ | .enqBad _ | .enqFull => true
  | .enq => valid && !full
  | _ => false

theorem hostFields_of_firstMatch (h valid full : Bit) (i : Instr)
    (hi : firstMatch hostRows (bits3 h valid full) = some i) : hostFields valid full i = true := by
  have hall : ∀ h valid full : Bit, (firstMatch hostRows (bits3 h valid full)).all (hostFields valid full) = true := by decide
  have hi' := hall h valid full
  rwa [hi] at hi'

/-- Every operation that a row of R85 selects keeps a controller in good order. -/
theorem exec_host_kept (i : Instr) {s t : State} {nd : Node} {f : Frame} (hn : s.node? = some nd) (hwf : nd.ctl.wf s.cfg)
    (hf : enqFrame s nd = some f) (hi : hostFields (frameValid f) (queueFull s.cfg nd.ctl) i = true)
    (h : exec i s = .next t) : Kept s nd t := by
  have ⟨hstate, hqueue, _⟩ := hwf
  cases i with
  | enqHalted => exact noEffect_kept nd h
  | enqBad => exact withNode_kept hn _ h fun hk => raiseCtl_kept _ _ hk hstate hqueue
  | enqFull =>
    refine withNode_kept hn _ h fun hk => ?_
    split at hk
    · exact raiseCtl_kept _ _ hk hstate hqueue
    · exact noEffect_kept nd hk
  | enq =>
    simp only [hostFields, Bool.and_eq_true, Bool.not_eq_true'] at hi
    refine withNode_kept hn _ h fun hk => ?_
    rw [hf] at hk
    exact putNode_kept hk (Controller.wf_push hwf hi.1 hi.2) rfl
  | _ => cases hi

end Sys2Proof.Machine
end

section
/-! Every step keeps the invariant: an operation keeps the agents in order, and passing the turn on keeps the sequencer in order
(10_state R22 to R27, 42_controller R178). -/
namespace Sys2Proof.Machine

/-! ## After an operation -/

theorem State.AgentsWf.of_set {s t : State} (hs : s.AgentsWf) (nd' : Node) (hnodes : t.nodes = s.nodes.set s.seq.node nd')
    (hcfg : t.cfg = s.cfg) (hwd : t.wd = s.wd) (hwf : nd'.ctl.wf s.cfg) : t.AgentsWf := by
  refine ⟨by rw [hnodes, hcfg, List.length_set, hs.nodes_length], by rw [hwd, hcfg, hs.last_length], hcfg ▸ hs.nNodes_pos,
    fun nd hnd => ?_⟩
  rw [hcfg]
  rcases List.mem_or_eq_of_mem_set (hnodes ▸ hnd) with h | rfl
  · exact hs.ctl_wf nd h
  · exact hwf

/-- An operation of a transceiver, the wires, the watchdog or the codec unit keeps every controller as it is. -/
theorem Effect.agentsWf {s t : State} {f : Format} (h : Effect s f t) (hctl : f ≠ .ctl) (hhost : f ≠ .host) (hs : s.AgentsWf) :
    t.AgentsWf := by
  cases h with
  | none => exact hs
  | ctl _ _ _ _ hf => exact (hf.elim hctl hhost).elim
  | ctlRaise _ _ _ _ _ _ hf => exact (hf.elim hctl hhost).elim
  | xcv nd o _ _ hn => exact hs.of_set _ rfl rfl rfl (hs.ctl_wf nd (List.mem_of_getElem? hn))
  | xcvRaise nd o k info _ _ hn => exact hs.of_set _ rfl rfl rfl (hs.ctl_wf nd (List.mem_of_getElem? hn))
  | wires | wiresRaise | codec => exact ⟨hs.nodes_length, hs.last_length, hs.nNodes_pos, hs.ctl_wf⟩
  | watchdog w hl => exact ⟨hs.nodes_length, hl.trans hs.last_length, hs.nNodes_pos, hs.ctl_wf⟩

/-- An operation leaves the turn where it is and loses no node. -/
theorem Change.sameTurn {s t : State} (h : Change s t) :
    t.seq = { s.seq with ended := t.seq.ended } ∧ t.nodes.length = s.nodes.length := by
  cases h with
  | node => exact ⟨rfl, List.length_set⟩
  | wires | watchdog | codec => exact ⟨rfl, rfl⟩

theorem Kept.agentsWf {s t : State} {nd : Node} (h : Kept s nd t) (hs : s.AgentsWf) : t.AgentsWf := by
  cases h with
  | same => exact hs
  | write nd' hwf => exact hs.of_set nd' rfl rfl rfl hwf
  | raise nd' hwf => exact hs.of_set nd' rfl rfl rfl hwf

theorem Kept.other {s t : State} {nd : Node} (h : Kept s nd t) {m : Nat} (hm : m ≠ s.seq.node) : t.nodes[m]? = s.nodes[m]? := by
  cases h with
  | same => rfl
  | write nd' | raise nd' => exact s.putNode_other nd' m hm

/-- After an operation of a controller, those that have faulted have had their turn, or it is the controller itself, whose turn has
ended. -/
theorem Kept.faulted {s t : State} {nd : Node} (h : Kept s nd t) (hs : s.SeqWf) (hh : s.seq.halted = false)
    (hstage : s.seq.stage = .ctl) (hn : s.node? = some nd) (m : Nat) (x : Node) (hm : t.nodes[m]? = some x)
    (hl : x.ctl.fault.latched = true) : m < s.seq.node ∨ m = s.seq.node ∧ t.seq.ended = true := by
  have hold (y : Node) (hy : s.nodes[m]? = some y) (hly : y.ctl.fault.latched = true) :
      m < s.seq.node ∨ m = s.seq.node ∧ s.seq.ended = true := by
    rcases hs.faulted hh m y hy hly with h | h | ⟨h, he, -⟩
    · exact absurd hstage h
    · exact .inl h
    · exact .inr ⟨h, he⟩
  cases h with
  | same => exact hold x hm hl
  | raise nd' =>
    by_cases hme : m = s.seq.node
    · exact .inr ⟨hme, rfl⟩
    · exact (hold x ((s.putNode_other nd' m hme).symm.trans hm) hl).imp_right fun h => absurd h.1 hme
  | write nd' _ hf =>
    by_cases hme : m = s.seq.node
    · subst hme
      obtain rfl : nd' = x := Option.some.inj ((s.putNode_node? nd nd' hn).symm.trans hm)
      exact hold nd hn (hf ▸ hl)
    · exact hold x ((s.putNode_other nd' m hme).symm.trans hm) hl

/-- After an operation of a controller the turn may pass on. -/
theorem Kept.turnDone {s t : State} {nd : Node} (h : Kept s nd t) (hc : Change s t) (hs : s.TurnDone) : t.TurnDone := by
  obtain ⟨hseq, hlen⟩ := hc.sameTurn
  refine ⟨hlen ▸ hs.nodes_pos, by rw [hseq]; exact hs.ctl_of_halted, ?_⟩
  rw [hseq]
  intro hh hstage m nd' hm hl
  by_cases hme : m = s.seq.node
  · exact hme.le
  · exact hs.faulted hh hstage m nd' ((h.other hme).symm.trans hm) hl

/-! ## Passing the turn on after a controller's operation -/

theorem reportState_seq (s : State) : (reportState s).seq = s.seq := by
  unfold reportState
  split
  · rfl
  · split <;> rfl

theorem SameRegisters.symm {s t : State} (h : SameRegisters s t) : SameRegisters t s := by
  obtain ⟨a, b, c, d, e, f, g⟩ := h
  exact ⟨a.symm, b.symm, c.symm, d.symm, e.symm, f.symm, g.symm⟩

/-- The state report of R141 is not a matter of whose turn it is. -/
theorem State.TurnDone.reportState {s : State} (h : s.TurnDone) : (reportState s).TurnDone := by
  have hsame := reportState_sameRegisters s
  refine ⟨hsame.length_nodes ▸ h.nodes_pos, by rw [reportState_seq]; exact h.ctl_of_halted, ?_⟩
  rw [reportState_seq]
  intro hh hs m nd hm hl
  obtain ⟨nd₀, hm₀, hctl, -⟩ := hsame.symm.node hm
  exact h.faulted hh hs m nd₀ hm₀ (hctl ▸ hl)

/-- After an enqueue: the turn passes on, or the same controller goes on, which if it has faulted still has frames to drop (R140,
R142). -/
theorem Kept.afterEnq_seqWf {s t : State} {nd : Node} (h : Kept s nd t) (hc : Change s t) (hs : s.SeqWf)
    (hstage : s.seq.stage = .ctl) (hn : s.node? = some nd) : t.afterEnq.SeqWf := by
  have hlt := s.node?_lt nd hn
  obtain ⟨hseq, hlen⟩ := hc.sameTurn
  have hnode : t.seq.node = s.seq.node := by rw [hseq]
  have htstage : t.seq.stage = .ctl := by rw [hseq]; exact hstage
  unfold State.afterEnq
  dsimp only
  split
  · next hnone =>
    rw [State.node?, hnode, List.getElem?_eq_none_iff] at hnone
    omega
  · next nd' hn' =>
    split
    · exact (h.turnDone hc (hs.turnDone (by omega))).nextAgent_seqWf
    · next hmore =>
      refine ⟨fun _ => ?_, fun _ => htstage, fun hh m x hm hl => .inr ?_⟩
      · show t.seq.node < t.nodes.length
        omega
      · show m < t.seq.node ∨ m = t.seq.node ∧ t.seq.ended = true ∧ t.seq.enqIdx + 1 < x.inp.ctlEnq.length
        have hhalted : s.seq.halted = false := by rw [hseq] at hh; exact hh
        rw [hnode]
        refine (h.faulted hs hhalted hstage hn m x hm hl).imp_right fun ⟨hme, hended⟩ => ⟨hme, hended, ?_⟩
        obtain rfl : nd' = x := Option.some.inj (hn'.symm.trans (by rw [State.node?, hnode, ← hme]; exact hm))
        simpa [hended] using hmore

/-! ## The operations of the other agents -/

/-- After an operation of a transceiver, the wires or the watchdog the sequencer is in order again. -/
theorem advance_seqWf_of_not_ctl {s t : State} (f : Format) (hf : f ≠ .ctl ∧ f ≠ .host ∧ f ≠ .fn) (hc : Change s t)
    (hs : s.SeqWf) (hpos : 0 < s.nodes.length) (hstage : s.seq.stage ≠ .ctl) (hxw : f = .xw → s.seq.stage = .xw) :
    (t.advance f).SeqWf := by
  obtain ⟨hseq, hlen⟩ := hc.sameTurn
  have hstage' : t.seq.stage ≠ .ctl := by rw [hseq]; exact hstage
  have hhalted : t.seq.halted = false := by rw [hseq]; simpa using mt hs.ctl_of_halted hstage
  have hdone : t.TurnDone :=
    ⟨hlen ▸ hpos, fun h => absurd (hhalted.symm.trans h) (by decide), fun _ h => absurd h hstage'⟩
  cases f with
  | ctl => exact absurd rfl hf.1
  | host => exact absurd rfl hf.2.1
  | fn => exact absurd rfl hf.2.2
  | xr | wr | wd => exact hdone.nextAgent_seqWf
  | xw =>
    rw [State.advance]
    split
    · exact hdone.nextAgent_seqWf
    · refine State.seqWf_of_not_ctl (by simp) hhalted fun _ => ?_
      show t.seq.node < t.nodes.length
      rw [hseq, hlen]
      exact hs.node_lt (.inr (.inl (hxw rfl)))
  | wi => exact State.seqWf_of_not_ctl (by simp [State.advance]) hhalted (by simp [State.advance])

/-! ## A step -/

/-- The word of a controller's CTL operation: it keeps the controller, whatever the operation is. -/
theorem ctl_operation_kept {s t : State} {nd : Node} {w : BitVec 10} {i : Instr} (ha : s.AgentsWf) (hs : s.SeqWf)
    (hstage : s.seq.stage = .ctl) (hn : s.node? = some nd) (hf : enqFrame s nd = none)
    (hw : ctlSelector s.seq.halted nd = .ok w) (hd : decode (.ctl w) = some i) (he : exec i s = .next t) : Kept s nd t := by
  obtain ⟨c, rfl, hcond⟩ := ctlSelector_word _ nd w hw
  cases hh : s.seq.halted with
  | true =>
    rw [hh] at hd
    obtain ⟨_, _, _, _, rfl⟩ := ctlHalted_of_firstMatch _ _ _ _ i hd
    exact noEffect_kept nd he
  | false =>
    rw [hh] at hd
    have hl : nd.ctl.fault.latched = false := by
      by_contra hl
      rcases hs.faulted hh s.seq.node nd hn (by simpa using hl) with h | h | ⟨-, -, h⟩
      · exact h hstage
      · exact absurd h (lt_irrefl _)
      · exact absurd (List.getElem?_eq_none_iff.mp hf) (by omega)
    have hi := enables_of_ctlFields nd.ctl _ _ c i (hcond hh) (ctlFields_of_firstMatch _ _ _ _ i hd)
    exact exec_ctl_kept i hn (ha.ctl_wf nd (List.mem_of_getElem? hn)) hl hi he

/-- The operation of a transceiver, the wires or the watchdog keeps the invariant, with the turn passed on. -/
theorem advance_inv_of_not_ctl {s t : State} (f : Format) (hf : f ≠ .ctl ∧ f ≠ .host ∧ f ≠ .fn) (he : Effect s f t)
    (hc : Change s t) (ha : s.AgentsWf) (hs : s.SeqWf) (hstage : s.seq.stage ≠ .ctl) (hxw : f = .xw → s.seq.stage = .xw) :
    (t.advance f).Inv := by
  have hpos : 0 < s.nodes.length := ha.nodes_length ▸ ha.nNodes_pos
  exact (State.inv_iff _).mpr ⟨(he.agentsWf hf.1 hf.2.1 ha).of_sameRegisters (advance_sameRegisters t f),
    advance_seqWf_of_not_ctl f hf hc hs hpos hstage hxw⟩

/-- A codec call changes nothing the invariant speaks of. -/
theorem advance_inv_of_codec {s t : State} (he : Effect s .fn t) (h : s.Inv) : (t.advance .fn).Inv := by
  cases he with
  | none | codec => exact h
  | ctl _ _ _ _ hf | ctlRaise _ _ _ _ _ _ hf | xcv _ _ _ hf | xcvRaise _ _ _ _ _ hf | wires _ _ hf =>
    rcases hf with hf | hf <;> cases hf

/-- Settles O7: by whose operation the step is. A controller's operation keeps the controller by the row's condition, every other
agent's leaves the controllers alone, and passing the turn on writes no register. -/
theorem everyStepKeepsTheInvariant : Obligations.EveryStepKeepsTheInvariant := by
  intro s t hinv h
  obtain ⟨sel, i, s', hfetch, hd, he, rfl⟩ := step_next s t h
  obtain ⟨ha, hs⟩ := (State.inv_iff s).mp hinv
  have hchange := exec_change i s s' he
  have heffect := exec_effect i s s' he
  rw [encode_of_decode sel i hd] at heffect
  have hpos : 0 < s.nodes.length := ha.nodes_length ▸ ha.nNodes_pos
  cases fetch_fetched s sel hfetch with
  | call id => exact advance_inv_of_codec heffect hinv
  | enq nd f hstage hn hf =>
    have hwf := ha.ctl_wf nd (List.mem_of_getElem? hn)
    have hkept := exec_host_kept i hn hwf hf (hostFields_of_firstMatch _ _ _ i hd) he
    exact (State.inv_iff _).mpr ⟨(hkept.agentsWf ha).of_sameRegisters (advance_sameRegisters s' .host),
      hkept.afterEnq_seqWf hchange hs hstage hn⟩
  | ctl nd w hstage hn hf hw =>
    have hkept := ctl_operation_kept ha hs hstage hn hf hw hd he
    exact (State.inv_iff _).mpr ⟨(hkept.agentsWf ha).of_sameRegisters (advance_sameRegisters s' .ctl),
      (hkept.turnDone hchange (hs.turnDone hpos)).reportState.nextAgent_seqWf⟩
  | xw w hstage => exact advance_inv_of_not_ctl .xw (by decide) heffect hchange ha hs (by simp [hstage]) fun _ => hstage
  | xr w hstage => exact advance_inv_of_not_ctl .xr (by decide) heffect hchange ha hs (by simp [hstage]) nofun
  | wi w hstage => exact advance_inv_of_not_ctl .wi (by decide) heffect hchange ha hs (by simp [hstage]) nofun
  | wr w hstage => exact advance_inv_of_not_ctl .wr (by decide) heffect hchange ha hs (by simp [hstage]) nofun
  | wd w hstage => exact advance_inv_of_not_ctl .wd (by decide) heffect hchange ha hs (by simp [hstage]) nofun

end Sys2Proof.Machine
end

section
/-! The model's stops are out of reach of the invariant: every word has a row, every agent has a word, and the operation it selects has
its operands (20_memory R56, 30_encoding R82, 42_controller R157, R172). -/
namespace Sys2Proof.Machine

/-! ## Every word has a row (R82) -/

theorem exists_decode (sel : Selector) : ∃ i, decode sel = some i := by
  rw [← Option.isSome_iff_exists]
  cases sel with
  | ctl w => exact (by decide +kernel : ∀ w, (firstMatch ctlRows w).isSome = true) w
  | host w => exact (by decide : ∀ w, (firstMatch hostRows w).isSome = true) w
  | xw w => exact (by decide : ∀ w, (firstMatch xwRows w).isSome = true) w
  | xr w => exact (by decide : ∀ w, (firstMatch xrRows w).isSome = true) w
  | wi w => exact (by decide : ∀ w, (firstMatch wiRows w).isSome = true) w
  | wr w => exact (by decide : ∀ w, (firstMatch wrRows w).isSome = true) w
  | wd w => exact (by decide : ∀ w, (firstMatch wdRows w).isSome = true) w
  | fn w => exact (by decide : ∀ w, (firstMatch fnRows w).isSome = true) w

/-! ## The bits of a queue in order -/

/-- The head entry of a controller that sends: its last bit sent is in the stream (R26). -/
theorem Controller.exists_head {cfg : Config} {c : Controller} (hc : c.queueWf cfg) (hs : c.sending) :
    ∃ h q, c.txq = h :: q ∧ h.wf ∧ 1 ≤ h.off.toNat := by
  obtain ⟨hwf, -, hsend, -⟩ := hc
  obtain ⟨hne, hhead⟩ := hsend hs
  obtain ⟨h, q, hq⟩ := List.exists_cons_of_ne_nil hne
  rw [hq] at hwf hhead
  exact ⟨h, q, hq, hwf h List.mem_cons_self, (hhead h (by simp)).1⟩

theorem length_stuffFrom_ge (k : Nat) (rv : Bit) (rl : Nat) (bits : List Bit) : bits.length ≤ (stuffFrom k rv rl bits).length := by
  induction bits generalizing rv rl with
  | nil => exact Nat.zero_le _
  | cons b bs ih =>
    simp only [stuffFrom]
    generalize (if 0 < rl ∧ b = rv then rl + 1 else 1) = rl'
    split
    · have := ih (!b) 1
      simp only [List.length_cons]
      omega
    · exact Nat.succ_le_succ (ih b rl')

/-- The stream goes on behind the arbitration field (R105). -/
theorem TxEntry.arbEnd_lt_length {e : TxEntry} (h : e.wf) : e.arbEnd.toNat < e.stream.length := by
  obtain ⟨-, hstream, -, -, -⟩ := h
  have harb := e.arbEnd.isLt
  have hregion := length_dataRegion e.frame
  have hstuff := length_stuffFrom_ge stuffK dominant 0 (dataRegion e.frame)
  rw [hstream, frameToBits, stuff, List.length_append]
  omega

/-- A data region with its header, a legal DLC and all its bits is a frame (R106). -/
theorem bitsToFrame_complete (d : List Bit) (hh : headerBits ≤ d.length) (hdlc : dlcOf d ≤ maxDlc)
    (hlen : dataRegionLen (dlcOf d) ≤ d.length) : ∃ f, bitsToFrame d = .ok f := by
  rw [bitsToFrame, if_neg (not_lt.mpr hh), if_neg (not_lt.mpr hdlc), if_neg (not_lt.mpr hlen)]
  exact ⟨_, rfl⟩

/-- RX.DONE is selected on a complete region only (R172: "always Ok here"). -/
theorem Assembler.bitsToFrame_of_done {a : Assembler} {b : Bit} (h : a.wf) (hc : a.rxClass b = .done) :
    ∃ f, bitsToFrame a.data = .ok f := by
  obtain ⟨hin, -, -⟩ := Assembler.classCondition_of_rxClass hc
  obtain ⟨hh, hge, -⟩ := a.inStuffed_eq_false_iff.mp hin
  obtain ⟨-, hafter, -⟩ := h
  obtain ⟨hheader, -, hdlc, hmax⟩ := hafter hh
  exact bitsToFrame_complete a.data hheader (hdlc ▸ hmax) (hdlc ▸ hge)

/-! ## Every agent has a word (R83 to R90) -/

theorem ctlCond_total {cfg : Config} {c : Controller} (hc : c.queueWf cfg) (b : Bit) : ∃ x, ctlCond c b = .ok x := by
  have hhead := Controller.exists_head hc
  unfold ctlCond
  split_ifs with _ _ harb htx
  · exact ⟨_, rfl⟩
  · exact ⟨_, rfl⟩
  · obtain ⟨h, q, hq, ⟨-, -, -, -, hoff⟩, hpos⟩ := hhead (.inl harb)
    obtain ⟨l, hl⟩ : ∃ l, h.stream[h.off.toNat - 1]? = some l := ⟨_, List.getElem?_eq_getElem (by omega)⟩
    simp [condArb, hq, lastSent_of_bit h l hpos hl]
  · obtain ⟨h, q, hq, -, -⟩ := hhead (.inr htx)
    simp [condTx, hq]
  · exact ⟨_, rfl⟩
  · exact ⟨_, rfl⟩

theorem ctlSelector_total {cfg : Config} {nd : Node} (hc : nd.ctl.queueWf cfg) (halted : Bool) :
    ∃ w, ctlSelector halted nd = .ok w := by
  unfold ctlSelector
  split
  · next b _ =>
    obtain ⟨x, hx⟩ := ctlCond_total hc b
    simp [hx]
  · exact ⟨_, rfl⟩

theorem nodeSelector_of_node (s : State) (nd : Node) (k : Node → Except Fault Selector) (h : s.node? = some nd) :
    nodeSelector s k = k nd := by
  simp [nodeSelector, h]

theorem controllerSelector_total {s : State} {nd : Node} (hc : nd.ctl.queueWf s.cfg) : ∃ sel, controllerSelector s nd = .ok sel := by
  unfold controllerSelector
  split
  · exact ⟨_, rfl⟩
  · obtain ⟨w, hw⟩ := ctlSelector_total hc s.seq.halted
    simp [hw]

theorem fetch_total {s : State} (ha : s.AgentsWf) (hs : s.SeqWf) (hcall : s.fn.call = none) : ∃ sel, fetch s = .ok sel := by
  have hnode (hlt : s.seq.node < s.nodes.length) : ∃ nd, s.node? = some nd := ⟨_, List.getElem?_eq_getElem hlt⟩
  simp only [fetch, hcall]
  split
  · next hstage =>
    obtain ⟨nd, hn⟩ := hnode (hs.node_lt (.inl hstage))
    rw [nodeSelector_of_node s nd _ hn]
    exact controllerSelector_total (Controller.queueWf_of_wf (ha.ctl_wf nd (List.mem_of_getElem? hn)))
  · next hstage =>
    obtain ⟨nd, hn⟩ := hnode (hs.node_lt (.inr (.inl hstage)))
    exact ⟨_, nodeSelector_of_node s nd _ hn⟩
  · next hstage =>
    obtain ⟨nd, hn⟩ := hnode (hs.node_lt (.inr (.inr hstage)))
    exact ⟨_, nodeSelector_of_node s nd _ hn⟩
  · exact ⟨_, rfl⟩
  · exact ⟨_, rfl⟩
  · exact ⟨_, rfl⟩

/-- An agent's word is no codec call. -/
theorem fetch_ne_fn {s : State} (hcall : s.fn.call = none) (id : BitVec 3) : fetch s ≠ .ok (.fn id) := by
  intro h
  simp only [fetch, hcall] at h
  split at h
  · obtain ⟨nd, -, hk⟩ := nodeSelector_ok s _ _ h
    unfold controllerSelector at hk
    split at hk
    · cases hk
    · split at hk <;> cases hk
  · obtain ⟨nd, -, hk⟩ := nodeSelector_ok s _ _ h
    cases hk
  · obtain ⟨nd, -, hk⟩ := nodeSelector_ok s _ _ h
    cases hk
  · cases h
  · cases h
  · cases h

/-! ## The operands of an operation -/

/-- Where the operation finds all it reads: its node, the entry and the bit of the queue, the frame, the samples. A codec call is no
agent's operation. -/
def State.operandsThere (s : State) : Instr → Prop
  | .ctlHalted .. | .ctlNobit .. | .idleStay _ | .enqHalted _ | .xcvWrnone _ | .xcvRdnone _ => True
  | .wiresInject | .wiresNoinj | .wiresIdle _ | .wiresNosamples _ | .wiresMismatch _ | .wiresLowhigh _ | .wiresRange => True
  | .wdgDormant _ | .wdgRequest _ | .wdgContBusy _ | .wdgSleep _ | .wdgContIdle _ => True
  | .wiresResolve => s.wires.lows ≠ [] ∧ s.wires.highs ≠ []
  | .waitGo _ | .arbMatch .. | .arbWon .. | .txNext .. =>
    ∃ nd h q b, s.node? = some nd ∧ nd.ctl.txq = h :: q ∧ h.stream[h.off.toNat]? = some b
  | .arbLost _ | .arbBusfault _ => ∃ nd h q, s.node? = some nd ∧ nd.ctl.txq = h :: q ∧ 1 ≤ h.off.toNat
  | .txDone .. => ∃ nd h q, s.node? = some nd ∧ nd.ctl.txq = h :: q
  | .rxDone _ => ∃ nd f, s.node? = some nd ∧ bitsToFrame nd.ctl.rx.data = .ok f
  | .enq => ∃ nd f, s.node? = some nd ∧ enqFrame s nd = some f
  | .fnStuff | .fnDestuff | .fnFrameToBits | .fnBitsToFrame | .fnFrameValid | .fnArbEnd | .fnDecodeWire | .fnReserved => False
  | _ => ∃ nd, s.node? = some nd

theorem withNode_completes {s : State} {nd : Node} {k : Node → Result} (hn : s.node? = some nd) (hk : ∃ t, k nd = .next t) :
    ∃ t, withNode s k = .next t := by
  rwa [withNode_of_node s nd k hn]

/-- With its operands there an operation completes. -/
theorem exec_completes (i : Instr) (s : State) (h : s.operandsThere i) : ∃ t, exec i s = .next t := by
  cases i with
  | ctlHalted | ctlNobit | idleStay | enqHalted | xcvWrnone | xcvRdnone => exact ⟨s, rfl⟩
  | wiresInject | wiresNoinj | wiresIdle | wiresNosamples | wiresMismatch => exact ⟨_, rfl⟩
  | wdgDormant | wdgRequest | wdgContBusy | wdgSleep | wdgContIdle => exact ⟨_, rfl⟩
  | wiresLowhigh =>
    simp only [exec, execWiresLowhigh]
    split <;> exact ⟨_, rfl⟩
  | wiresRange =>
    simp only [exec, execWiresRange]
    split <;> exact ⟨_, rfl⟩
  | wiresResolve =>
    obtain ⟨hl, hh⟩ := h
    obtain ⟨l, ls, hl⟩ := List.exists_cons_of_ne_nil hl
    obtain ⟨m, ms, hh⟩ := List.exists_cons_of_ne_nil hh
    simp [exec, execWiresResolve, hl, hh]
  | waitGo | arbMatch | arbWon | txNext =>
    obtain ⟨nd, e, q, b, hn, hq, hb⟩ := h
    exact withNode_completes hn ⟨_, txWrite_of_bit s _ e q b hq hb⟩
  | arbLost | arbBusfault =>
    obtain ⟨nd, e, q, hn, hq, hpos⟩ := h
    refine withNode_completes hn ?_
    rw [withHead_of_cons nd e q _ hq, lastIndex_of_pos e hpos]
    exact ⟨_, rfl⟩
  | txDone =>
    obtain ⟨nd, e, q, hn, hq⟩ := h
    exact withNode_completes hn ⟨_, withHead_of_cons nd e q _ hq⟩
  | rxDone =>
    obtain ⟨nd, f, hn, hf⟩ := h
    refine withNode_completes hn ?_
    simp [hf]
  | enq =>
    obtain ⟨nd, f, hn, hf⟩ := h
    refine withNode_completes hn ?_
    simp [hf]
  | enqFull =>
    obtain ⟨nd, hn⟩ := h
    refine withNode_completes hn ?_
    split <;> exact ⟨_, rfl⟩
  | ctlBadState5 | ctlBadState67 | ctlBadStateRxc | ctlMulti | rxHdrbad | rxBadeof | enqBad | idleSof | idleStart | waitSof
  | waitCount | rxData | rxSkip | rxHdr | rxTrail | xcvWrmulti | xcvRdmulti | xcvRdbad | xcvWr0 | xcvWr1 | xcvRd0 | xcvRd1 =>
    obtain ⟨nd, hn⟩ := h
    exact withNode_completes hn ⟨_, rfl⟩
  | _ => exact h.elim

/-! ## The selected operation has its operands -/

/-- What row `i` of R84 fixes in the fields S, N and C of a word with H = 0, as far as its operands rest on it. -/
def ctlOperandFields (st : BitVec 3) (n : BitVec 2) (c : BitVec 3) : Instr → Bool
  | .waitGo _ => st == CtlState.wait
  | .arbMatch .. | .arbWon .. | .arbLost _ | .arbBusfault _ => st == CtlState.arbitration
  | .txNext .. => st == CtlState.transmit && n == 1#2 && !bitAt c 2
  | .txDone .. => st == CtlState.transmit
  | .rxDone _ => st == CtlState.receive && n == 1#2 && c == RxClass.done.code
  | _ => true

theorem ctlOperandFields_of_firstMatch (st : BitVec 3) (n : BitVec 2) (b : Bit) (c : BitVec 3) (i : Instr)
    (h : firstMatch ctlRows (BitVec.ofBool false ++ st ++ n ++ BitVec.ofBool b ++ c) = some i) :
    ctlOperandFields st n c i = true := by
  have hall : ∀ (st : BitVec 3) (n : BitVec 2) (b : Bit) (c : BitVec 3),
      (firstMatch ctlRows (BitVec.ofBool false ++ st ++ n ++ BitVec.ofBool b ++ c)).all (ctlOperandFields st n c) = true := by
    decide +kernel
  have hi := hall st n b c
  rwa [h] at hi

theorem ctlCond_transmit (c : Controller) (b : Bit) (x : BitVec 3) (hs : c.state = CtlState.transmit) (h : ctlCond c b = .ok x) :
    ∀ e ∈ c.txq.take 1, bitAt x 2 = condX e := by
  rw [ctlCond, hs, if_neg (by decide), if_neg (by decide), if_neg (by decide), if_pos rfl, condTx] at h
  split at h
  · cases h
  · next e q hq =>
    cases h
    simp [hq, bitAt_bits3_two]

/-- A bit is left where the cursor is within the stream. -/
theorem State.operands_write {s : State} {nd : Node} {h : TxEntry} {q : List TxEntry} (hn : s.node? = some nd)
    (hq : nd.ctl.txq = h :: q) (hlt : h.off.toNat < h.stream.length) :
    ∃ nd h q b, s.node? = some nd ∧ nd.ctl.txq = h :: q ∧ h.stream[h.off.toNat]? = some b :=
  ⟨nd, h, q, _, hn, hq, List.getElem?_eq_getElem hlt⟩

/-- The rows of R84: the word's fields say that the operands are there. -/
theorem operandsThere_of_ctlFields {s : State} {nd : Node} {n : BitVec 2} {b : Bit} {c : BitVec 3} {i : Instr}
    (hn : s.node? = some nd) (hwf : nd.ctl.wf s.cfg) (hl : nd.ctl.fault.latched = false)
    (hc : n = 1#2 → ctlCond nd.ctl b = .ok c) (hrow : ctlFields nd.ctl.state n b c i = true)
    (h : ctlOperandFields nd.ctl.state n c i = true) : s.operandsThere i := by
  have hqueue := Controller.queueWf_of_wf hwf
  have hhead := Controller.exists_head hqueue
  cases i with
  | ctlNobit | idleStay => exact trivial
  | ctlBadState5 | ctlBadState67 | ctlBadStateRxc | ctlMulti | rxHdrbad | rxBadeof | idleSof | idleStart | waitSof
  | waitCount | rxData | rxSkip | rxHdr | rxTrail => exact ⟨nd, hn⟩
  | waitGo =>
    have hs : nd.ctl.state = CtlState.wait := eq_of_beq h
    obtain ⟨hents, -, -, -, hwait, -⟩ := hqueue
    obtain ⟨e, q, hq⟩ := List.exists_cons_of_ne_nil (hwait hs)
    have hlt := TxEntry.arbEnd_lt_length (hents e (by simp [hq]))
    have hoff := Controller.off_succ_le_arbEnd hwf hs e (by simp [hq])
    exact State.operands_write hn hq (by omega)
  | arbMatch | arbWon =>
    have hs : nd.ctl.state = CtlState.arbitration := eq_of_beq h
    obtain ⟨e, q, hq, he, -⟩ := hhead (.inl hs)
    have hoff := Controller.off_le_arbEnd hwf hs e (by simp [hq])
    exact State.operands_write hn hq (lt_of_le_of_lt hoff (TxEntry.arbEnd_lt_length he))
  | arbLost | arbBusfault =>
    obtain ⟨e, q, hq, -, hpos⟩ := hhead (.inl (eq_of_beq h))
    exact ⟨nd, e, q, hn, hq, hpos⟩
  | txNext =>
    simp only [ctlOperandFields, Bool.and_eq_true, beq_iff_eq] at h
    obtain ⟨⟨hs, hone⟩, hx⟩ := h
    obtain ⟨e, q, hq, ⟨-, -, hlen, -, hoff⟩, -⟩ := hhead (.inr hs)
    rw [ctlCond_transmit nd.ctl b c hs (hc hone) e (by simp [hq]), condX] at hx
    have hne : e.off.toNat ≠ e.len.toNat := fun he => by simp [BitVec.eq_of_toNat_eq he] at hx
    exact State.operands_write hn hq (by omega)
  | txDone =>
    obtain ⟨e, q, hq, -, -⟩ := hhead (.inr (eq_of_beq h))
    exact ⟨nd, e, q, hn, hq⟩
  | rxDone =>
    simp only [ctlOperandFields, Bool.and_eq_true, beq_iff_eq] at h
    obtain ⟨⟨hs, hone⟩, hk⟩ := h
    have hclass : nd.ctl.rx.rxClass b = .done :=
      RxClass.code_injective _ _ ((ctlCond_receive nd.ctl b c hs (hc hone)).symm.trans hk)
    obtain ⟨f, hf⟩ := Assembler.bitsToFrame_of_done (Controller.rx_wf hwf hl hs) hclass
    exact ⟨nd, f, hn, hf⟩
  | _ => cases hrow

/-- A controller that takes its bus bit in a step that is not halted has not faulted (R192). -/
theorem State.SeqWf.not_latched {s : State} (hs : s.SeqWf) (hh : s.seq.halted = false) (hstage : s.seq.stage = .ctl) {nd : Node}
    (hn : s.node? = some nd) (hf : enqFrame s nd = none) : nd.ctl.fault.latched = false := by
  by_contra hl
  rcases hs.faulted hh s.seq.node nd hn (by simpa using hl) with h | h | ⟨-, -, h⟩
  · exact h hstage
  · exact absurd h (lt_irrefl _)
  · exact absurd (List.getElem?_eq_none_iff.mp hf) (by omega)

theorem operandsThere_ctl {s : State} {nd : Node} {w : BitVec 10} {i : Instr} (ha : s.AgentsWf) (hs : s.SeqWf)
    (hstage : s.seq.stage = .ctl) (hn : s.node? = some nd) (hf : enqFrame s nd = none)
    (hw : ctlSelector s.seq.halted nd = .ok w) (hd : decode (.ctl w) = some i) : s.operandsThere i := by
  obtain ⟨c, rfl, hcond⟩ := ctlSelector_word _ nd w hw
  cases hh : s.seq.halted with
  | true =>
    rw [hh] at hd
    obtain ⟨_, _, _, _, rfl⟩ := ctlHalted_of_firstMatch _ _ _ _ i hd
    exact trivial
  | false =>
    rw [hh] at hd
    exact operandsThere_of_ctlFields hn (ha.ctl_wf nd (List.mem_of_getElem? hn)) (hs.not_latched hh hstage hn hf) (hcond hh)
      (ctlFields_of_firstMatch _ _ _ _ i hd) (ctlOperandFields_of_firstMatch _ _ _ _ i hd)

theorem operandsThere_host {s : State} {nd : Node} {f : Frame} {i : Instr} (hn : s.node? = some nd) (hf : enqFrame s nd = some f)
    (hd : decode (.host (hostSelector s nd f)) = some i) : s.operandsThere i := by
  have hi := hostFields_of_firstMatch _ _ _ i hd
  cases i with
  | enqHalted => exact trivial
  | enqBad | enqFull => exact ⟨nd, hn⟩
  | enq => exact ⟨nd, f, hn, hf⟩
  | _ => cases hi

theorem operandsThere_xcv {s : State} {i : Instr} (hlt : s.seq.node < s.nodes.length)
    (hi : (encode i).format = .xw ∨ (encode i).format = .xr) : s.operandsThere i := by
  cases i with
  | xcvWrnone | xcvRdnone => exact trivial
  | xcvWrmulti | xcvWr0 | xcvWr1 | xcvRdmulti | xcvRd0 | xcvRd1 | xcvRdbad => exact ⟨_, List.getElem?_eq_getElem hlt⟩
  | _ => simp [encode, Selector.format] at hi

/-- WIRES.RESOLVE is selected with a sample on both lines only (R89). -/
theorem operandsThere_wires {s : State} {i : Instr}
    (hi : (encode i).format = .wi ∨ encode i = .wr (wrSelector s.cfg s.wires)) : s.operandsThere i := by
  cases i with
  | wiresInject | wiresNoinj | wiresIdle | wiresNosamples | wiresMismatch | wiresLowhigh | wiresRange => exact trivial
  | wiresResolve =>
    have hfields : ∀ m c p r g : Bool, 0b10000#5 =
        BitVec.ofBool m ++ BitVec.ofBool c ++ BitVec.ofBool p ++ BitVec.ofBool r ++ BitVec.ofBool g →
        m = true ∧ c = false := by decide
    obtain ⟨hm, hc⟩ := hfields _ _ _ _ _ (by simpa [encode, Selector.format, wrSelector] using hi)
    cases hl : s.wires.lows <;> cases hh : s.wires.highs <;> simp [hl, hh] at hm hc
    simp [State.operandsThere, hl, hh]
  | _ => simp [encode, Selector.format] at hi

theorem operandsThere_wd {s : State} {i : Instr} (hi : (encode i).format = .wd) : s.operandsThere i := by
  cases i with
  | wdgDormant | wdgRequest | wdgContBusy | wdgSleep | wdgContIdle => exact trivial
  | _ => cases hi

/-- Under the invariant the operation that the agent's word selects has its operands. -/
theorem operandsThere_of_fetch {s : State} {sel : Selector} {i : Instr} (hinv : s.Inv) (hcall : s.fn.call = none)
    (hfetch : fetch s = .ok sel) (hd : decode sel = some i) : s.operandsThere i := by
  obtain ⟨ha, hs⟩ := (State.inv_iff s).mp hinv
  have hi := encode_of_decode sel i hd
  cases fetch_fetched s sel hfetch with
  | call id => exact absurd hfetch (fetch_ne_fn hcall id)
  | enq nd f hstage hn hf => exact operandsThere_host hn hf hd
  | ctl nd w hstage hn hf hw => exact operandsThere_ctl ha hs hstage hn hf hw hd
  | xw w hstage => exact operandsThere_xcv (hs.node_lt (.inr (.inl hstage))) (.inl (by rw [hi]; rfl))
  | xr w hstage => exact operandsThere_xcv (hs.node_lt (.inr (.inr hstage))) (.inr (by rw [hi]; rfl))
  | wi w hstage => exact operandsThere_wires (.inl (by rw [hi]; rfl))
  | wr w hstage =>
    have hw : w = wrSelector s.cfg s.wires := by simpa [fetch, hcall, hstage] using hfetch.symm
    exact operandsThere_wires (.inr (hw ▸ hi))
  | wd w hstage => exact operandsThere_wd (by rw [hi]; rfl)

/-! ## A step completes -/

theorem step_of_parts {s s' : State} {sel : Selector} {i : Instr} (hfetch : fetch s = .ok sel) (hd : decode sel = some i)
    (he : exec i s = .next s') : step s = .next (s'.advance sel.format) := by
  simp [step, hfetch, hd, he]

/-- Under the invariant every agent's operation completes, whatever stands on the ports. -/
theorem step_completes {s : State} (hinv : s.Inv) (hcall : s.fn.call = none) : ∃ t, step s = .next t := by
  obtain ⟨ha, hs⟩ := (State.inv_iff s).mp hinv
  obtain ⟨sel, hfetch⟩ := fetch_total ha hs hcall
  obtain ⟨i, hd⟩ := exists_decode sel
  obtain ⟨s', he⟩ := exec_completes i s (operandsThere_of_fetch hinv hcall hfetch hd)
  exact ⟨_, step_of_parts hfetch hd he⟩

end Sys2Proof.Machine
end

section
/-! The operations that a system step still has to run, as a list read off the sequencer and the frames on the controllers' ports
(20_memory R51), and what one step does to that list: it runs the first of them, and leaves out the one behind it when the agent has
faulted (42_controller R140, 41_physical R120, 60_exceptions R190). -/
namespace Sys2Proof.Machine

/-! ## The operations still due -/

theorem State.AgentsWf.nodes_pos {s : State} (h : s.AgentsWf) : 0 < s.nodes.length := h.nodes_length ▸ h.nNodes_pos

/-- How many frames stand on each controller's port. -/
def State.enqCounts (s : State) : List Nat := s.nodes.map fun nd => nd.inp.ctlEnq.length

/-- The turns of the controllers from index n on, with their numbers of frames: the enqueues, then the CTL operation (R140). -/
def ctlDue (n : Nat) : List Nat → List (Nat × Format)
  | [] => []
  | k :: ks => List.replicate k (n, .host) ++ (n, .ctl) :: ctlDue (n + 1) ks

/-- The turns of k transceivers from index n on: write path, read path (R120). -/
def xcvDue (n : Nat) : Nat → List (Nat × Format)
  | 0 => []
  | k + 1 => (n, .xw) :: (n, .xr) :: xcvDue (n + 1) k

/-- The turns of the wires and the watchdog (R128, R198). -/
def busDue : List (Nat × Format) := [(0, .wi), (0, .wr), (0, .wd)]

/-- What is left of the turn the sequencer is at. -/
def Sequencer.turnDue (q : Sequencer) (counts : List Nat) : List (Nat × Format) :=
  match q.stage with
  | .ctl => List.replicate (counts[q.node]?.getD 0 - q.enqIdx) (q.node, .host) ++ [(q.node, .ctl)]
  | .xw => [(q.node, .xw), (q.node, .xr)]
  | .xr => [(q.node, .xr)]
  | .wi => [(q.node, .wi), (q.node, .wr)]
  | .wr => [(q.node, .wr)]
  | .wd => [(q.node, .wd)]

/-- The turns after it; in a halted step only controllers have one (R192). -/
def Sequencer.laterDue (q : Sequencer) (counts : List Nat) : List (Nat × Format) :=
  match q.stage with
  | .ctl => ctlDue (q.node + 1) (counts.drop (q.node + 1)) ++ if q.halted then [] else xcvDue 0 counts.length ++ busDue
  | .xw | .xr => xcvDue (q.node + 1) (counts.length - (q.node + 1)) ++ busDue
  | .wi | .wr => [(0, .wd)]
  | .wd => []

/-- The operations of the running system step that are still due when no agent faults. -/
def State.due (s : State) : List (Nat × Format) := s.seq.turnDue s.enqCounts ++ s.seq.laterDue s.enqCounts

@[simp] theorem State.turn_enqCounts (s : State) (g : Stage) (n : Nat) : (s.turn g n).enqCounts = s.enqCounts := rfl

@[simp] theorem State.length_enqCounts (s : State) : s.enqCounts.length = s.nodes.length := List.length_map _

theorem State.enqCounts_node {s : State} {nd : Node} (hn : s.node? = some nd) :
    s.enqCounts[s.seq.node]?.getD 0 = nd.inp.ctlEnq.length := by
  have hn : s.nodes[s.seq.node]? = some nd := hn
  simp [State.enqCounts, hn]

theorem ctlDue_drop (counts : List Nat) (n : Nat) (h : n < counts.length) :
    ctlDue n (counts.drop n) = List.replicate (counts[n]?.getD 0) (n, .host) ++ (n, .ctl) :: ctlDue (n + 1) (counts.drop (n + 1)) := by
  rw [List.drop_eq_getElem_cons h, ctlDue, List.getElem?_eq_getElem h, Option.getD_some]

theorem xcvDue_sub (n m : Nat) (h : n < m) : xcvDue n (m - n) = (n, .xw) :: (n, .xr) :: xcvDue (n + 1) (m - (n + 1)) := by
  rw [show m - n = m - (n + 1) + 1 by omega, xcvDue]

theorem State.seq_of_atBoundary {s : State} (h : s.atBoundary = true) : s.seq = Sequencer.start s.seq.halted := by
  simp only [State.atBoundary, Bool.and_eq_true, decide_eq_true_eq, Bool.not_eq_true'] at h
  obtain ⟨⟨⟨hstage, hnode⟩, hidx⟩, hended⟩ := h
  cases hs : s.seq
  simp_all [Sequencer.start]

/-- At the beginning of a system step everything is due: the enqueues and the CTL operation of every controller, then, unless the
system is halted, the two paths of every transceiver, the wires and the watchdog. -/
theorem State.due_of_atBoundary {s : State} (h : s.atBoundary = true) (hpos : 0 < s.nodes.length) :
    s.due = ctlDue 0 s.enqCounts ++ if s.seq.halted then [] else xcvDue 0 s.nodes.length ++ busDue := by
  have hfirst := ctlDue_drop s.enqCounts 0 (by simpa using hpos)
  rw [List.drop_zero] at hfirst
  obtain ⟨halted, hq⟩ : ∃ halted, s.seq = Sequencer.start halted := ⟨_, State.seq_of_atBoundary h⟩
  rw [hfirst]
  simp [State.due, Sequencer.turnDue, Sequencer.laterDue, hq, Sequencer.start]

/-! ## Passing the turn on -/

/-- The next turn is the first of those due later, in the same system step; or none is due, and the system step ends. -/
theorem State.nextAgent_cases (s : State) (hpos : 0 < s.nodes.length) :
    (∃ g n, s.nextAgent = s.turn g n ∧ (s.turn g n).due = s.seq.laterDue s.enqCounts) ∨
      s.nextAgent = s.commit ∧ s.seq.laterDue s.enqCounts = [] := by
  have hlen := s.length_enqCounts
  have hnextXcv (n : Nat) (hn : n < s.nodes.length) :
      (s.turn .xw n).due = xcvDue n (s.enqCounts.length - n) ++ busDue := by
    rw [xcvDue_sub n _ (by omega)]
    rfl
  unfold State.nextAgent
  cases hstage : s.seq.stage with
  | ctl =>
    simp only [Sequencer.laterDue, hstage]
    split
    · next hn =>
      refine .inl ⟨_, _, rfl, ?_⟩
      rw [ctlDue_drop s.enqCounts _ (by omega)]
      simp [State.due, Sequencer.turnDue, Sequencer.laterDue]
    · next hn =>
      rw [List.drop_of_length_le (by omega), ctlDue, List.nil_append]
      split
      · exact .inr ⟨rfl, rfl⟩
      · exact .inl ⟨_, _, rfl, hnextXcv 0 hpos⟩
  | xw | xr =>
    simp only [Sequencer.laterDue, hstage]
    split
    · next hn => exact .inl ⟨_, _, rfl, hnextXcv _ hn⟩
    · next hn =>
      rw [show s.enqCounts.length - (s.seq.node + 1) = 0 by omega, xcvDue]
      exact .inl ⟨_, _, rfl, rfl⟩
  | wi | wr =>
    simp only [Sequencer.laterDue, hstage]
    exact .inl ⟨_, _, rfl, rfl⟩
  | wd =>
    simp only [Sequencer.laterDue, hstage]
    exact .inr ⟨trivial, trivial⟩

/-! ## What one step does to the list -/

/-- The operation of format g that node n's agent leaves out after one of format f, since it has faulted in it. -/
inductive LeftOut (nodes : List Node) (n : Nat) : Format → Format → Prop where
  | ctl (nd : Node) (hn : nodes[n]? = some nd) (hf : nd.ctl.fault.code ≠ 0) : LeftOut nodes n .host .ctl
  | xr (nd : Node) (hn : nodes[n]? = some nd) (hf : nd.xcvFault.code ≠ 0) : LeftOut nodes n .xw .xr

/-- Where the turn of an agent has ended early: a controller has faulted; a transceiver that has is not called on again. -/
def State.EndedWf (s : State) : Prop :=
  s.seq.ended = true → s.seq.halted = false ∧ s.seq.stage ≠ .xw ∧
    (s.seq.stage = .ctl → ∀ nd, s.node? = some nd → nd.ctl.fault.code ≠ 0)

theorem State.endedWf_of_not_ended {s : State} (h : s.seq.ended = false) : s.EndedWf := fun he => by simp [h] at he

/-- A step with an operation of format f from s to t: it goes on in the same system step, one operation may be left out, or the system
step ends with the last one due. -/
inductive Passes (s : State) (f : Format) (t : State) : Prop where
  | goOn (ht : t.t = s.t) (hh : t.seq.halted = s.seq.halted) (he : t.EndedWf) (hd : s.due = (s.seq.node, f) :: t.due)
  | leaveOut (g : Format) (ht : t.t = s.t) (hh : t.seq.halted = s.seq.halted) (he : t.EndedWf) (hr : s.seq.halted = false)
      (hl : LeftOut t.nodes s.seq.node f g) (hd : s.due = (s.seq.node, f) :: (s.seq.node, g) :: t.due)
  | finish (ht : t.t = s.t + 1) (hb : t.atBoundary = true) (hd : s.due = [(s.seq.node, f)])

/-- What an operation leaves as it was: the turn, the step number, the waiting call and the frames on the ports. -/
structure SameTurn (s u : State) : Prop where
  seq : u.seq = { s.seq with ended := u.seq.ended }
  t : u.t = s.t
  call : u.fn.call = s.fn.call
  counts : u.enqCounts = s.enqCounts
  length : u.nodes.length = s.nodes.length

/-- What a write of one node does not change there it changes nowhere. -/
theorem map_set_eq_map {α : Type} {l : List Node} {n : Nat} {nd w : Node} (g : Node → α) (hn : l[n]? = some nd) (hg : g w = g nd) :
    (l.set n w).map g = l.map g := by
  obtain ⟨hlt, rfl⟩ := List.getElem?_eq_some_iff.mp hn
  rw [List.map_set, hg, ← List.getElem_map g]
  · exact List.set_getElem_self _
  · simpa using hlt

theorem Effect.sameTurn {s u : State} {f : Format} (h : Effect s f u) : SameTurn s u := by
  cases h with
  | none => exact ⟨rfl, rfl, rfl, rfl, rfl⟩
  | ctl nd c o _ _ hn => exact ⟨rfl, rfl, rfl, map_set_eq_map _ hn rfl, List.length_set⟩
  | ctlRaise nd c o k info _ _ hn => exact ⟨rfl, rfl, rfl, map_set_eq_map _ hn rfl, List.length_set⟩
  | xcv nd o _ _ hn => exact ⟨rfl, rfl, rfl, map_set_eq_map _ hn rfl, List.length_set⟩
  | xcvRaise nd o k info _ _ hn => exact ⟨rfl, rfl, rfl, map_set_eq_map _ hn rfl, List.length_set⟩
  | wires | wiresRaise | watchdog | codec => exact ⟨rfl, rfl, rfl, rfl, rfl⟩

theorem reportState_sameTurn (s : State) : SameTurn s (reportState s) := by
  unfold reportState
  split
  · exact ⟨rfl, rfl, rfl, rfl, rfl⟩
  · next nd hn =>
    split
    · exact ⟨rfl, rfl, rfl, map_set_eq_map _ hn rfl, List.length_set⟩
    · exact ⟨rfl, rfl, rfl, rfl, rfl⟩

theorem SameTurn.trans {s u v : State} (h : SameTurn s u) (h' : SameTurn u v) : SameTurn s v where
  seq := by rw [h'.seq, h.seq]
  t := h'.t.trans h.t
  call := h'.call.trans h.call
  counts := h'.counts.trans h.counts
  length := h'.length.trans h.length

theorem SameTurn.laterDue {s u : State} (h : SameTurn s u) : u.seq.laterDue u.enqCounts = s.seq.laterDue s.enqCounts := by
  rw [h.counts, h.seq]
  rfl

theorem SameTurn.due_setSeq {s u : State} (h : SameTurn s u) (q : Sequencer) :
    State.due { u with seq := q } = q.turnDue s.enqCounts ++ q.laterDue s.enqCounts := by
  rw [← h.counts]
  rfl

/-- The agent's last operation is done. -/
theorem SameTurn.nextAgent_passes {s u : State} {f : Format} (h : SameTurn s u) (hpos : 0 < s.nodes.length)
    (hturn : s.seq.turnDue s.enqCounts = [(s.seq.node, f)]) : Passes s f u.nextAgent := by
  have hdue : s.due = (s.seq.node, f) :: u.seq.laterDue u.enqCounts := by rw [State.due, hturn, h.laterDue]; rfl
  rcases u.nextAgent_cases (h.length ▸ hpos) with ⟨g, n, hn, hd⟩ | ⟨hn, hd⟩
  · rw [hn]
    exact .goOn h.t (by rw [State.turn_seq_halted, h.seq]) (State.endedWf_of_not_ended rfl) (hd ▸ hdue)
  · rw [hn]
    exact .finish (by rw [State.commit_t, h.t]) rfl (hd ▸ hdue)

/-- The agent has faulted and leaves its last operation out. -/
theorem SameTurn.nextAgent_leavesOut {s u : State} {f g : Format} (h : SameTurn s u) (hpos : 0 < s.nodes.length)
    (hturn : s.seq.turnDue s.enqCounts = [(s.seq.node, f), (s.seq.node, g)]) (hlater : s.seq.laterDue s.enqCounts ≠ [])
    (hr : s.seq.halted = false) (hl : LeftOut u.nodes s.seq.node f g) : Passes s f u.nextAgent := by
  rcases u.nextAgent_cases (h.length ▸ hpos) with ⟨g', n, hn, hd⟩ | ⟨hn, hd⟩
  · rw [hn]
    refine .leaveOut g h.t (by rw [State.turn_seq_halted, h.seq]) (State.endedWf_of_not_ended rfl) hr hl ?_
    rw [State.due, hturn, hd, h.laterDue]
    rfl
  · exact absurd (h.laterDue ▸ hd) hlater

/-- After a transceiver's write path. -/
theorem xw_passes {s u : State} (h : Effect s .xw u) (hpos : 0 < s.nodes.length) (hstage : s.seq.stage = .xw) (he : s.EndedWf)
    (hr : s.seq.halted = false) : Passes s .xw (u.advance .xw) := by
  have hsame := h.sameTurn
  have hturn : s.seq.turnDue s.enqCounts = [(s.seq.node, .xw), (s.seq.node, .xr)] := by simp [Sequencer.turnDue, hstage]
  rw [State.advance]
  split
  · next hended =>
    refine hsame.nextAgent_leavesOut hpos hturn (by simp [Sequencer.laterDue, hstage, busDue]) hr ?_
    have hne : s.seq.ended ≠ true := fun hs => (he hs).2.1 hstage
    cases h with
    | none => exact absurd hended hne
    | xcv => exact absurd hended hne
    | xcvRaise nd o k info _ _ hn =>
      exact .xr _ (s.putNode_node? nd _ hn) ((FaultReg.latched_iff _).mp (FaultReg.raise_latched nd.xcvFault k info))
    | ctl _ _ _ _ hf | ctlRaise _ _ _ _ _ _ hf | wires _ _ hf => rcases hf with hf | hf <;> cases hf
  · next hended =>
    refine .goOn hsame.t (by rw [hsame.seq]) (State.endedWf_of_not_ended (by simpa using hended)) ?_
    rw [State.due, hturn, hsame.due_setSeq, hsame.seq]
    simp [Sequencer.turnDue, Sequencer.laterDue, hstage]

/-- With H = 1 only ENQ.HALTED is selected (R85, R142). -/
theorem enqHalted_of_firstMatch (valid full : Bit) (i : Instr) (h : firstMatch hostRows (bits3 true valid full) = some i) :
    ∃ vf, i = .enqHalted vf := by
  have hrow : ∀ valid full : Bit, bits3 true valid full &&& 0b100#3 == 0b100#3 := by decide
  have hfirst := (if_pos (hrow valid full)).symm.trans h
  exact ⟨_, (Option.some.inj hfirst).symm⟩

/-- After an enqueue the controller's turn has ended only where it has faulted, in a step that is not halted (R142, R190). -/
theorem ended_host {s u : State} {nd : Node} {f : Frame} {i : Instr} (hn : s.node? = some nd) (hstage : s.seq.stage = .ctl)
    (hd : decode (.host (hostSelector s nd f)) = some i) (hu : exec i s = .next u) (he : s.EndedWf) (hended : u.seq.ended = true) :
    s.seq.halted = false ∧ ∃ nd', u.node? = some nd' ∧ nd'.ctl.fault.code ≠ 0 := by
  have hfaulted (hs : s.seq.ended = true) : nd.ctl.fault.code ≠ 0 := (he hs).2.2 hstage nd hn
  cases hh : s.seq.halted with
  | true =>
    simp only [decode, hostSelector, hh, Bool.true_or] at hd
    obtain ⟨vf, rfl⟩ := enqHalted_of_firstMatch _ _ i hd
    obtain rfl : s = u := by simpa [exec, execEnqHalted, noEffect] using hu
    exact absurd (hh.symm.trans (he hended).1) (by decide)
  | false =>
    refine ⟨rfl, ?_⟩
    have heffect := exec_effect i s u hu
    rw [encode_of_decode _ i hd] at heffect
    cases heffect with
    | none => exact ⟨nd, hn, hfaulted hended⟩
    | ctl nd₀ c o _ _ hn₀ hc =>
      obtain rfl : nd₀ = nd := Option.some.inj (hn₀.symm.trans hn)
      exact ⟨_, s.putNode_node? nd₀ _ hn₀, hc ▸ hfaulted hended⟩
    | ctlRaise nd₀ c o k info _ _ hn₀ =>
      exact ⟨_, s.putNode_node? nd₀ _ hn₀, (FaultReg.latched_iff _).mp (FaultReg.raise_latched nd₀.ctl.fault k info)⟩
    | xcv _ _ _ hf | xcvRaise _ _ _ _ _ hf | wires _ _ hf => rcases hf with hf | hf <;> cases hf

/-- After an enqueue operation. -/
theorem host_passes {s u : State} {nd : Node} {f : Frame} (h : SameTurn s u) (hstage : s.seq.stage = .ctl)
    (hn : s.node? = some nd) (hf : enqFrame s nd = some f)
    (hended : u.seq.ended = true → s.seq.halted = false ∧ ∃ nd', u.node? = some nd' ∧ nd'.ctl.fault.code ≠ 0) :
    Passes s .host (u.advance .host) := by
  have hlt : s.seq.node < s.nodes.length := s.node?_lt nd hn
  have hidx : s.seq.enqIdx < nd.inp.ctlEnq.length := (List.getElem?_eq_some_iff.mp hf).1
  have hnode : u.seq.node = s.seq.node := by rw [h.seq]
  have henq : u.seq.enqIdx = s.seq.enqIdx := by rw [h.seq]
  obtain ⟨nd', hn'⟩ : ∃ nd', u.node? = some nd' := ⟨_, List.getElem?_eq_getElem (by rw [hnode, h.length]; exact hlt)⟩
  have hframes : nd'.inp.ctlEnq.length = nd.inp.ctlEnq.length := by
    rw [← State.enqCounts_node hn', ← State.enqCounts_node hn, hnode, h.counts]
  simp only [State.advance, State.afterEnq, hn', henq, hframes, Bool.and_eq_true, decide_eq_true_eq]
  split
  · next hlast =>
    obtain ⟨hr, nd'', hn'', hcode⟩ := hended hlast.1
    have hone : nd.inp.ctlEnq.length - s.seq.enqIdx = 1 := by omega
    refine h.nextAgent_leavesOut (by omega) ?_ ?_ hr (.ctl nd'' (by rw [← hnode]; exact hn'') hcode)
    · rw [Sequencer.turnDue, hstage, State.enqCounts_node hn, hone]
      rfl
    · simp [Sequencer.laterDue, hstage, hr, busDue]
  · next hmore =>
    refine .goOn h.t (by rw [h.seq]) (fun he => ?_) ?_
    · obtain ⟨hr, nd'', hn'', hcode⟩ := hended he
      refine ⟨by rw [h.seq]; exact hr, by rw [h.seq, hstage]; decide, fun _ x hx => ?_⟩
      obtain rfl : nd'' = x := Option.some.inj (hn''.symm.trans hx)
      exact hcode
    · have hsucc : nd.inp.ctlEnq.length - s.seq.enqIdx = nd.inp.ctlEnq.length - (s.seq.enqIdx + 1) + 1 := by omega
      rw [State.due, Sequencer.turnDue, hstage, State.enqCounts_node hn, hsucc, List.replicate_succ]
      rw [h.due_setSeq, h.seq]
      simp [Sequencer.turnDue, Sequencer.laterDue, hstage, State.enqCounts_node hn]

/-- After the injection decision. -/
theorem wi_passes {s u : State} (h : SameTurn s u) (hstage : s.seq.stage = .wi) (hr : s.seq.halted = false) :
    Passes s .wi (u.advance .wi) := by
  rw [State.advance]
  refine .goOn h.t (by rw [h.seq]) (fun _ => ⟨by rw [h.seq]; exact hr, by simp, by simp⟩) ?_
  rw [State.due, h.due_setSeq, h.seq]
  simp [Sequencer.turnDue, Sequencer.laterDue, hstage]

/-- A step with an agent's operation runs the first of the operations due. -/
theorem step_passes {s t : State} (hinv : s.Inv) (hcall : s.fn.call = none) (he : s.EndedWf) (h : step s = .next t) :
    ∃ sel, fetch s = .ok sel ∧ Passes s sel.format t := by
  obtain ⟨ha, hs⟩ := (State.inv_iff s).mp hinv
  have hpos := ha.nodes_pos
  obtain ⟨sel, i, u, hfetch, hd, hu, rfl⟩ := step_next s t h
  refine ⟨sel, hfetch, ?_⟩
  have heffect := exec_effect i s u hu
  rw [encode_of_decode sel i hd] at heffect
  have hsame := heffect.sameTurn
  cases fetch_fetched s sel hfetch with
  | call id => exact absurd hfetch (fetch_ne_fn hcall id)
  | enq nd f hstage hn hf => exact host_passes hsame hstage hn hf (ended_host hn hstage hd hu he)
  | ctl nd w hstage hn hf =>
    have hnone : nd.inp.ctlEnq.length - s.seq.enqIdx = 0 := Nat.sub_eq_zero_of_le (List.getElem?_eq_none_iff.mp hf)
    exact (hsame.trans (reportState_sameTurn u)).nextAgent_passes hpos
      (by simp [Sequencer.turnDue, hstage, State.enqCounts_node hn, hnone, Selector.format])
  | xw w hstage => exact xw_passes heffect hpos hstage he (by simpa using mt hs.ctl_of_halted (by simp [hstage]))
  | xr w hstage => exact hsame.nextAgent_passes hpos (by simp [Sequencer.turnDue, hstage, Selector.format])
  | wi w hstage =>
    have hr : s.seq.halted = false := by simpa using mt hs.ctl_of_halted (by simp [hstage])
    exact wi_passes hsame hstage hr
  | wr w hstage => exact hsame.nextAgent_passes hpos (by simp [Sequencer.turnDue, hstage, Selector.format])
  | wd w hstage => exact hsame.nextAgent_passes hpos (by simp [Sequencer.turnDue, hstage, Selector.format])

/-! ## No codec call comes up -/

theorem nextAgent_fn (s : State) : s.nextAgent.fn = s.fn := by
  unfold State.nextAgent
  split
  · split
    · rfl
    · split <;> rfl
  · split <;> rfl
  · split <;> rfl
  · rfl
  · rfl
  · rfl

theorem afterEnq_fn (s : State) : s.afterEnq.fn = s.fn := by
  unfold State.afterEnq
  dsimp only
  split
  · rfl
  · split
    · exact nextAgent_fn s
    · rfl

theorem reportState_fn (s : State) : (reportState s).fn = s.fn := by
  unfold reportState
  split
  · rfl
  · split <;> rfl

theorem advance_call_none {s : State} (f : Format) (h : s.fn.call = none) : (s.advance f).fn.call = none := by
  cases f with
  | host => rwa [State.advance, afterEnq_fn]
  | ctl => rwa [State.advance, nextAgent_fn, reportState_fn]
  | xw =>
    rw [State.advance]
    split
    · rwa [nextAgent_fn]
    · exact h
  | xr | wr | wd => rwa [State.advance, nextAgent_fn]
  | wi => exact h
  | fn => rfl

theorem step_call_none {s t : State} (hcall : s.fn.call = none) (h : step s = .next t) : t.fn.call = none := by
  obtain ⟨f, u, heffect, rfl⟩ := step_effect s t h
  exact advance_call_none f (heffect.sameTurn.call.trans hcall)

end Sys2Proof.Machine
end

section
/-! A whole system step: the operations run are those due at its beginning, but for what a faulting agent leaves out (20_memory R51,
42_controller R140, 41_physical R120, R128, 60_exceptions R192). -/
namespace Sys2Proof.Machine

/-! ## The run of a system step -/

/-- The operations run, against those due: an operation is left out only in a step that is not halted, by an agent whose fault stands
in the nodes at the end. -/
inductive RunsAs (nodes : List Node) (halted : Bool) : List (Nat × Format) → List (Nat × Format) → Prop where
  | nil : RunsAs nodes halted [] []
  | run (x : Nat × Format) {due ops : List (Nat × Format)} (h : RunsAs nodes halted due ops) :
      RunsAs nodes halted (x :: due) (x :: ops)
  | leaveOut (n : Nat) (f g : Format) {due ops : List (Nat × Format)} (hr : halted = false) (hl : LeftOut nodes n f g)
      (h : RunsAs nodes halted due ops) : RunsAs nodes halted ((n, f) :: (n, g) :: due) ((n, f) :: ops)

theorem State.KeepsFaults.trans {s t u : State} (h : s.KeepsFaults t) (h' : t.KeepsFaults u) : s.KeepsFaults u := by
  have hkept {a b c : FaultReg} (h : a.KeptBy b) (h' : b.KeptBy c) : a.KeptBy c := fun ha => (h' (h ha ▸ ha)).trans (h ha)
  obtain ⟨hnodes, hwires⟩ := h
  obtain ⟨hnodes', hwires'⟩ := h'
  refine ⟨fun m nd hm => ?_, hkept hwires hwires'⟩
  obtain ⟨nd', hm', hc, hx⟩ := hnodes m nd hm
  obtain ⟨nd'', hm'', hc', hx'⟩ := hnodes' m nd' hm'
  exact ⟨nd'', hm'', hkept hc hc', hkept hx hx'⟩

/-- The fault of an agent that has left an operation out is kept. -/
theorem State.KeepsFaults.leftOut {s t : State} (h : s.KeepsFaults t) {n : Nat} {f g : Format} (hl : LeftOut s.nodes n f g) :
    LeftOut t.nodes n f g := by
  cases hl with
  | ctl nd hn hf =>
    obtain ⟨nd', hn', hc, -⟩ := h.1 n nd hn
    exact .ctl nd' hn' (hc hf ▸ hf)
  | xr nd hn hf =>
    obtain ⟨nd', hn', -, hx⟩ := h.1 n nd hn
    exact .xr nd' hn' (hx hf ▸ hf)

/-- What a system step that begins in s or goes on from s comes to, with enough fuel. -/
structure EndsIn (fuel : Nat) (s t : State) : Prop where
  run : runToBoundary fuel s = .next t
  boundary : t.atBoundary = true
  time : t.t = s.t + 1
  inv : t.Inv
  faults : s.KeepsFaults t
  ops : RunsAs t.nodes s.seq.halted s.due (operationsToBoundary fuel s)

/-- By induction on the fuel: every step runs the first of the operations due, so their number bounds the steps. -/
theorem exists_endsIn (fuel : Nat) (s : State) (hinv : s.Inv) (hcall : s.fn.call = none) (he : s.EndedWf)
    (hfuel : s.due.length ≤ fuel) : ∃ t, EndsIn fuel s t := by
  induction fuel generalizing s with
  | zero =>
    obtain ⟨u, hu⟩ := step_completes hinv hcall
    obtain ⟨sel, -, hpass⟩ := step_passes hinv hcall he hu
    cases hpass with
    | goOn _ _ _ hd | leaveOut _ _ _ _ _ _ hd | finish _ _ hd => simp [hd] at hfuel
  | succ fuel ih =>
    obtain ⟨u, hu⟩ := step_completes hinv hcall
    have hinv' := everyStepKeepsTheInvariant s u hinv hu
    have hcall' := step_call_none hcall hu
    have hkeeps : s.KeepsFaults u := noStepChangesALatchedFault s u hu
    obtain ⟨sel, hfetch, hpass⟩ := step_passes hinv hcall he hu
    cases hpass with
    | goOn ht hh he' hd =>
      obtain ⟨t, h⟩ := ih u hinv' hcall' he' (by rw [hd] at hfuel; simpa using hfuel)
      refine ⟨t, ⟨?_, h.boundary, ht ▸ h.time, h.inv, hkeeps.trans h.faults, ?_⟩⟩
      · rw [runToBoundary, hu]
        simpa [ht] using h.run
      · rw [operationsToBoundary, hfetch, hu, hd]
        simpa [ht, ← hh] using .run _ h.ops
    | leaveOut g ht hh he' hr hl hd =>
      obtain ⟨t, h⟩ := ih u hinv' hcall' he' (by rw [hd] at hfuel; simp at hfuel; omega)
      refine ⟨t, ⟨?_, h.boundary, ht ▸ h.time, h.inv, hkeeps.trans h.faults, ?_⟩⟩
      · rw [runToBoundary, hu]
        simpa [ht] using h.run
      · rw [operationsToBoundary, hfetch, hu, hd]
        simpa [ht, ← hh] using .leaveOut _ _ g (hh.trans hr) (h.faults.leftOut hl) h.ops
    | finish ht hb hd =>
      refine ⟨u, ⟨?_, hb, ht, hinv', hkeeps, ?_⟩⟩
      · rw [runToBoundary, hu]
        simp [ht]
      · rw [operationsToBoundary, hfetch, hu, hd]
        simpa [ht] using .run _ .nil

theorem length_ctlDue (n : Nat) (counts : List Nat) : (ctlDue n counts).length = counts.sum + counts.length := by
  induction counts generalizing n with
  | nil => rfl
  | cons k ks ih =>
    simp only [ctlDue, List.length_append, List.length_replicate, List.length_cons, ih, List.sum_cons]
    omega

theorem length_xcvDue (n k : Nat) : (xcvDue n k).length = 2 * k := by
  induction k generalizing n with
  | zero => rfl
  | succ k ih => simp only [xcvDue, List.length_cons, ih]; omega

/-- The operations due at the beginning of a system step are within its bound. -/
theorem State.length_due_le {s : State} (h : s.atBoundary = true) (hpos : 0 < s.nodes.length) : s.due.length ≤ s.operationBound := by
  have hrest : (if s.seq.halted then [] else xcvDue 0 s.nodes.length ++ busDue).length ≤ 2 * s.nodes.length + 3 := by
    split
    · exact Nat.zero_le _
    · rw [List.length_append, length_xcvDue]
      rfl
  rw [State.due_of_atBoundary h hpos, List.length_append, length_ctlDue, State.length_enqCounts, State.operationBound]
  show s.enqCounts.sum + _ + _ ≤ s.enqCounts.sum + _ + _
  omega

theorem systemStep_endsIn {s : State} (hinv : s.Inv) (hcall : s.fn.call = none) (hb : s.atBoundary = true) :
    ∃ t, EndsIn s.operationBound s t := by
  have ⟨ha, _⟩ := (State.inv_iff s).mp hinv
  have hpos := ha.nodes_pos
  have hended : s.seq.ended = false := by rw [State.seq_of_atBoundary hb]; rfl
  exact exists_endsIn _ s hinv hcall (State.endedWf_of_not_ended hended) (State.length_due_le hb hpos)

/-- Settles O9: each operation is the first of those still due, whose number is within the bound at the beginning. -/
theorem systemStepReachesTheNextBoundary : Obligations.SystemStepReachesTheNextBoundary := by
  intro s hinv hcall hb
  obtain ⟨t, h⟩ := systemStep_endsIn hinv hcall hb
  exact ⟨t, h.run, h.boundary, h.time, h.inv⟩

end Sys2Proof.Machine
end

section
/-! Each agent's share of the operations of a system step (20_memory R51, 42_controller R140, R142, 41_physical R120, R128,
60_exceptions R192). -/
namespace Sys2Proof.Machine

/-! ## Picking out an agent's operations -/

@[simp] theorem operationsOf_append (a b : List (Nat × Format)) (n : Nat) (fs : List Format) :
    operationsOf (a ++ b) n fs = operationsOf a n fs ++ operationsOf b n fs := List.filter_append ..

theorem operationsOf_cons_of_mem {f : Format} {fs : List Format} (ops : List (Nat × Format)) (n : Nat) (hf : fs.contains f = true) :
    operationsOf ((n, f) :: ops) n fs = (n, f) :: operationsOf ops n fs := List.filter_cons_of_pos (by simpa using hf)

theorem operationsOf_cons_of_not {x : Nat × Format} {n : Nat} {fs : List Format} (ops : List (Nat × Format))
    (hx : x.1 ≠ n ∨ fs.contains x.2 = false) : operationsOf (x :: ops) n fs = operationsOf ops n fs :=
  List.filter_cons_of_neg (by rcases hx with hx | hx <;> simp_all)

theorem operationsOf_eq_nil {ops : List (Nat × Format)} {n : Nat} {fs : List Format}
    (h : ∀ x ∈ ops, x.1 ≠ n ∨ fs.contains x.2 = false) : operationsOf ops n fs = [] :=
  List.filter_eq_nil_iff.mpr fun x hx => by rcases h x hx with h | h <;> simp_all

theorem operationsOf_eq_self {ops : List (Nat × Format)} {n : Nat} {fs : List Format}
    (h : ∀ x ∈ ops, x.1 = n ∧ fs.contains x.2 = true) : operationsOf ops n fs = ops :=
  List.filter_eq_self.mpr fun x hx => by simpa using h x hx

theorem mem_ctlDue {x : Nat × Format} {n : Nat} {counts : List Nat} (h : x ∈ ctlDue n counts) :
    n ≤ x.1 ∧ x.1 < n + counts.length ∧ (x.2 = .host ∨ x.2 = .ctl) := by
  induction counts generalizing n with
  | nil => cases h
  | cons k ks ih =>
    rw [List.length_cons]
    rcases List.mem_append.mp h with h | h
    · obtain rfl := List.eq_of_mem_replicate h
      exact ⟨le_rfl, by simp, .inl rfl⟩
    · rcases List.mem_cons.mp h with rfl | h
      · exact ⟨le_rfl, by simp, .inr rfl⟩
      · obtain ⟨hge, hlt, hf⟩ := ih h
        exact ⟨by omega, by omega, hf⟩

theorem mem_xcvDue {x : Nat × Format} {n k : Nat} (h : x ∈ xcvDue n k) :
    n ≤ x.1 ∧ x.1 < n + k ∧ (x.2 = .xw ∨ x.2 = .xr) := by
  induction k generalizing n with
  | zero => cases h
  | succ k ih =>
    simp only [xcvDue, List.mem_cons] at h
    rcases h with rfl | rfl | h
    · exact ⟨le_rfl, by simp, .inl rfl⟩
    · exact ⟨le_rfl, by simp, .inr rfl⟩
    · obtain ⟨hge, hlt, hf⟩ := ih h
      exact ⟨by omega, by omega, hf⟩

theorem mem_busDue {x : Nat × Format} (h : x ∈ busDue) : x.1 = 0 ∧ (x.2 = .wi ∨ x.2 = .wr ∨ x.2 = .wd) := by
  revert x
  decide

/-- A controller's share of the turns of the controllers. -/
theorem operationsOf_ctlDue {counts : List Nat} {n i k : Nat} (h : counts[i]? = some k) :
    operationsOf (ctlDue n counts) (n + i) [.host, .ctl] = List.replicate k (n + i, .host) ++ [(n + i, .ctl)] := by
  induction counts generalizing n i with
  | nil => cases h
  | cons c cs ih =>
    cases i with
    | zero =>
      obtain rfl : c = k := by simpa using h
      have hfirst : operationsOf (List.replicate c (n, .host)) n [.host, .ctl] = List.replicate c (n, .host) :=
        operationsOf_eq_self fun x hx => by simp [List.eq_of_mem_replicate hx]
      have hrest : operationsOf (ctlDue (n + 1) cs) n [.host, .ctl] = [] :=
        operationsOf_eq_nil fun x hx => .inl (by have := (mem_ctlDue hx).1; omega)
      simp only [ctlDue, Nat.add_zero, operationsOf_append, hfirst]
      rw [operationsOf_cons_of_mem _ _ rfl, hrest]
    | succ i =>
      have hfirst : operationsOf (List.replicate c (n, .host)) (n + (i + 1)) [.host, .ctl] = [] :=
        operationsOf_eq_nil fun x hx => .inl (by simp [List.eq_of_mem_replicate hx])
      rw [ctlDue, operationsOf_append, hfirst, operationsOf_cons_of_not _ (.inl (by simp)), List.nil_append,
        show n + (i + 1) = n + 1 + i by omega]
      exact ih h

/-- A transceiver's share of the turns of the transceivers. -/
theorem operationsOf_xcvDue {n i k : Nat} (h : i < k) :
    operationsOf (xcvDue n k) (n + i) [.xw, .xr] = [(n + i, .xw), (n + i, .xr)] := by
  induction k generalizing n i with
  | zero => cases h
  | succ k ih =>
    rw [xcvDue]
    cases i with
    | zero =>
      have hrest : operationsOf (xcvDue (n + 1) k) n [.xw, .xr] = [] :=
        operationsOf_eq_nil fun x hx => .inl (by have := (mem_xcvDue hx).1; omega)
      simp only [Nat.add_zero]
      rw [operationsOf_cons_of_mem _ _ rfl, operationsOf_cons_of_mem _ _ rfl, hrest]
    | succ i =>
      rw [operationsOf_cons_of_not _ (.inl (by simp)), operationsOf_cons_of_not _ (.inl (by simp)),
        show n + (i + 1) = n + 1 + i by omega]
      exact ih (by omega)

/-! ## The shares of what is due -/

theorem due_share_ctl {s : State} {n : Nat} {nd : Node} (hb : s.atBoundary = true) (hn : s.nodes[n]? = some nd) :
    operationsOf s.due n [.host, .ctl] = List.replicate nd.inp.ctlEnq.length (n, .host) ++ [(n, .ctl)] := by
  have hpos : 0 < s.nodes.length := Nat.zero_lt_of_lt (List.getElem?_eq_some_iff.mp hn).1
  have hcount : s.enqCounts[n]? = some nd.inp.ctlEnq.length := by simp [State.enqCounts, hn]
  have hctl := operationsOf_ctlDue (n := 0) hcount
  have hrest : operationsOf (if s.seq.halted then [] else xcvDue 0 s.nodes.length ++ busDue) n [.host, .ctl] = [] := by
    refine operationsOf_eq_nil fun x hx => .inr ?_
    split at hx
    · cases hx
    · rcases List.mem_append.mp hx with hx | hx
      · rcases (mem_xcvDue hx).2.2 with h | h <;> simp [h]
      · rcases (mem_busDue hx).2 with h | h | h <;> simp [h]
  rw [State.due_of_atBoundary hb hpos, operationsOf_append, hrest, List.append_nil]
  simpa using hctl

theorem due_share_xcv {s : State} {n : Nat} (hb : s.atBoundary = true) (hh : s.seq.halted = false) (hn : n < s.nodes.length) :
    operationsOf s.due n [.xw, .xr] = [(n, .xw), (n, .xr)] := by
  have hxcv := operationsOf_xcvDue (n := 0) hn
  have hctl : operationsOf (ctlDue 0 s.enqCounts) n [.xw, .xr] = [] :=
    operationsOf_eq_nil fun x hx => .inr (by rcases (mem_ctlDue hx).2.2 with h | h <;> simp [h])
  have hbus : operationsOf busDue n [.xw, .xr] = [] :=
    operationsOf_eq_nil fun x hx => .inr (by rcases (mem_busDue hx).2 with h | h | h <;> simp [h])
  rw [State.due_of_atBoundary hb (Nat.zero_lt_of_lt hn), hh, if_neg (by decide), operationsOf_append, operationsOf_append, hctl,
    hbus]
  simpa using hxcv

/-- The share of the wires or of the watchdog is that of their own turns. -/
theorem due_share_bus {s : State} {fs : List Format} (hb : s.atBoundary = true) (hh : s.seq.halted = false)
    (hpos : 0 < s.nodes.length) (hfs : ∀ f ∈ fs, f = .wi ∨ f = .wr ∨ f = .wd) :
    operationsOf s.due 0 fs = operationsOf busDue 0 fs := by
  have hnot {f : Format} (hf : f = .host ∨ f = .ctl ∨ f = .xw ∨ f = .xr) : fs.contains f = false := by
    by_contra hc
    rcases hfs f (by simpa using hc) with rfl | rfl | rfl <;> simp at hf
  have hctl : operationsOf (ctlDue 0 s.enqCounts) 0 fs = [] :=
    operationsOf_eq_nil fun x hx => .inr (hnot (by have := (mem_ctlDue hx).2.2; tauto))
  have hxcv : operationsOf (xcvDue 0 s.nodes.length) 0 fs = [] :=
    operationsOf_eq_nil fun x hx => .inr (hnot (by have := (mem_xcvDue hx).2.2; tauto))
  rw [State.due_of_atBoundary hb hpos, hh, if_neg (by decide), operationsOf_append, operationsOf_append, hctl, hxcv]
  rfl

/-! ## The shares of what is run -/

/-- An agent's share of the operations run is run as its share of those due. -/
theorem RunsAs.share {nodes : List Node} {halted : Bool} {due ops : List (Nat × Format)} (h : RunsAs nodes halted due ops) (n : Nat)
    (fs : List Format) (hctl : fs.contains .host = fs.contains .ctl) (hxcv : fs.contains .xw = fs.contains .xr) :
    RunsAs nodes halted (operationsOf due n fs) (operationsOf ops n fs) := by
  induction h with
  | nil => exact .nil
  | run x _ ih =>
    obtain ⟨m, f⟩ := x
    by_cases hx : m = n ∧ fs.contains f = true
    · obtain ⟨rfl, hf⟩ := hx
      rw [operationsOf_cons_of_mem _ _ hf, operationsOf_cons_of_mem _ _ hf]
      exact .run _ ih
    · have hx : m ≠ n ∨ fs.contains f = false := by rw [← Bool.not_eq_true]; tauto
      rwa [operationsOf_cons_of_not _ hx, operationsOf_cons_of_not _ hx]
  | leaveOut m f g hr hl _ ih =>
    have hfg : fs.contains f = fs.contains g := by
      cases hl with
      | ctl => exact hctl
      | xr => exact hxcv
    by_cases hx : m = n ∧ fs.contains f = true
    · obtain ⟨rfl, hf⟩ := hx
      rw [operationsOf_cons_of_mem _ _ hf, operationsOf_cons_of_mem _ _ hf, operationsOf_cons_of_mem _ _ (hfg ▸ hf)]
      exact .leaveOut _ _ _ hr hl ih
    · have hx : m ≠ n ∨ fs.contains f = false := by rw [← Bool.not_eq_true]; tauto
      have hx' : m ≠ n ∨ fs.contains g = false := hfg ▸ hx
      rwa [operationsOf_cons_of_not _ hx, operationsOf_cons_of_not _ hx', operationsOf_cons_of_not _ hx]

theorem RunsAs.sublist {nodes : List Node} {halted : Bool} {due ops : List (Nat × Format)} (h : RunsAs nodes halted due ops) :
    ops.Sublist due := by
  induction h with
  | nil => exact .refl _
  | run x _ ih => exact ih.cons_cons x
  | leaveOut n f g _ _ _ ih => exact (ih.cons (n, g)).cons_cons (n, f)

/-- In a halted step nothing is left out. -/
theorem RunsAs.eq_of_halted {nodes : List Node} {due ops : List (Nat × Format)} (h : RunsAs nodes true due ops) : ops = due := by
  induction h with
  | nil => rfl
  | run x _ ih => rw [ih]
  | leaveOut _ _ _ hr => cases hr

/-- A controller's turn: all of it is run, or all but the CTL operation, which comes after a frame made it fault. -/
theorem RunsAs.ctl_turn {nodes : List Node} {halted : Bool} {n k : Nat} {ops : List (Nat × Format)}
    (h : RunsAs nodes halted (List.replicate k (n, .host) ++ [(n, .ctl)]) ops) :
    ops = List.replicate k (n, .host) ++ [(n, .ctl)] ∨
      k ≠ 0 ∧ ops = List.replicate k (n, .host) ∧ ∃ nd, nodes[n]? = some nd ∧ nd.ctl.fault.code ≠ 0 := by
  induction k generalizing ops with
  | zero =>
    cases h with
    | run x h =>
      cases h
      exact .inl rfl
  | succ k ih =>
    rw [List.replicate_succ, List.cons_append] at h
    generalize hd : List.replicate k (n, Format.host) ++ [(n, Format.ctl)] = due at h ih
    cases h with
    | run x h =>
      rcases ih h with rfl | ⟨-, rfl, hf⟩
      · exact .inl (by rw [← hd]; rfl)
      · exact .inr ⟨by simp, rfl, hf⟩
    | leaveOut _ _ g _ hl h =>
      cases hl with
      | ctl nd hn hf =>
        cases k with
        | zero =>
          obtain rfl := (List.cons.inj hd).2
          cases h
          exact .inr ⟨by simp, rfl, nd, hn, hf⟩
        | succ k => simp [List.replicate_succ] at hd

theorem RunsAs.xcv_turn {nodes : List Node} {halted : Bool} {n : Nat} {ops : List (Nat × Format)}
    (h : RunsAs nodes halted [(n, .xw), (n, .xr)] ops) :
    ops = [(n, .xw), (n, .xr)] ∨ ops = [(n, .xw)] ∧ ∃ nd, nodes[n]? = some nd ∧ nd.xcvFault.code ≠ 0 := by
  cases h with
  | run x h =>
    cases h with
    | run x h =>
      cases h
      exact .inl rfl
  | leaveOut _ _ g _ hl h =>
    cases h
    cases hl with
    | xr nd hn hf => exact .inr ⟨rfl, nd, hn, hf⟩

theorem RunsAs.wires_turn {nodes : List Node} {halted : Bool} {ops : List (Nat × Format)}
    (h : RunsAs nodes halted [(0, .wi), (0, .wr)] ops) : ops = [(0, .wi), (0, .wr)] := by
  cases h with
  | run x h =>
    cases h with
    | run x h =>
      cases h
      rfl
  | leaveOut _ _ g _ hl h => cases hl

theorem RunsAs.watchdog_turn {nodes : List Node} {halted : Bool} {ops : List (Nat × Format)}
    (h : RunsAs nodes halted [(0, .wd)] ops) : ops = [(0, .wd)] := by
  cases h with
  | run x h =>
    cases h
    rfl

/-! ## The operations of a system step -/

/-- What may be due: an operation of a node that exists, or one of the wires or the watchdog, in a step that is not halted. -/
theorem mem_due {s : State} {x : Nat × Format} (hb : s.atBoundary = true) (hpos : 0 < s.nodes.length) (h : x ∈ s.due) :
    x.1 < s.nodes.length ∧ x.2 ≠ .fn ∧ (x.2 = .wi ∨ x.2 = .wr ∨ x.2 = .wd → x.1 = 0) ∧
      (s.seq.halted = true → x.2 = .host ∨ x.2 = .ctl) := by
  rw [State.due_of_atBoundary hb hpos] at h
  rcases List.mem_append.mp h with h | h
  · obtain ⟨-, hlt, hf⟩ := mem_ctlDue h
    rw [State.length_enqCounts, Nat.zero_add] at hlt
    exact ⟨hlt, by rintro he; simp [he] at hf, by rintro (he | he | he) <;> simp [he] at hf, fun _ => hf⟩
  · split at h
    · cases h
    · next hh =>
      rcases List.mem_append.mp h with h | h
      · obtain ⟨-, hlt, hf⟩ := mem_xcvDue h
        rw [Nat.zero_add] at hlt
        exact ⟨hlt, by rintro he; simp [he] at hf, by rintro (he | he | he) <;> simp [he] at hf, fun hr => absurd hr hh⟩
      · obtain ⟨hzero, hf⟩ := mem_busDue h
        exact ⟨hzero ▸ hpos, by rintro he; simp [he] at hf, fun _ => hzero, fun hr => absurd hr hh⟩

/-- A node's share in a step that is not halted. -/
theorem EndsIn.node_turns {s t : State} (h : EndsIn s.operationBound s t) (hb : s.atBoundary = true) (hh : s.seq.halted = false)
    {n : Nat} {nd : Node} (hn : s.nodes[n]? = some nd) :
    ∃ nd', t.nodes[n]? = some nd' ∧
      (operationsOf (systemOperations s) n [.host, .ctl] = List.replicate nd.inp.ctlEnq.length (n, .host) ++ [(n, .ctl)] ∨
        nd.inp.ctlEnq ≠ [] ∧ nd'.ctl.fault.code ≠ 0 ∧
          operationsOf (systemOperations s) n [.host, .ctl] = List.replicate nd.inp.ctlEnq.length (n, .host)) ∧
      (operationsOf (systemOperations s) n [.xw, .xr] = [(n, .xw), (n, .xr)] ∨
        nd'.xcvFault.code ≠ 0 ∧ operationsOf (systemOperations s) n [.xw, .xr] = [(n, .xw)]) := by
  obtain ⟨nd', hn', -⟩ := h.faults.1 n nd hn
  have hctl := h.ops.share n [.host, .ctl] rfl rfl
  have hxcv := h.ops.share n [.xw, .xr] rfl rfl
  rw [due_share_ctl hb hn] at hctl
  rw [due_share_xcv hb hh (List.getElem?_eq_some_iff.mp hn).1] at hxcv
  refine ⟨nd', hn', hctl.ctl_turn.imp_right ?_, hxcv.xcv_turn.imp_right ?_⟩
  · rintro ⟨hk, hops, x, hx, hf⟩
    obtain rfl : x = nd' := Option.some.inj (hx.symm.trans hn')
    exact ⟨by simpa using hk, hf, hops⟩
  · rintro ⟨hops, x, hx, hf⟩
    obtain rfl : x = nd' := Option.some.inj (hx.symm.trans hn')
    exact ⟨hf, hops⟩

/-- The shares of the wires and the watchdog in a step that is not halted. -/
theorem EndsIn.bus_turns {s t : State} (h : EndsIn s.operationBound s t) (hb : s.atBoundary = true) (hh : s.seq.halted = false)
    (hpos : 0 < s.nodes.length) :
    operationsOf (systemOperations s) 0 [.wi, .wr] = [(0, .wi), (0, .wr)] ∧
      operationsOf (systemOperations s) 0 [.wd] = [(0, .wd)] := by
  have hwires := h.ops.share 0 [.wi, .wr] rfl rfl
  have hwd := h.ops.share 0 [.wd] rfl rfl
  rw [due_share_bus hb hh hpos (by decide)] at hwires hwd
  exact ⟨hwires.wires_turn, hwd.watchdog_turn⟩

/-- Settles O10: the operations run are those due at the beginning but for what a faulting agent leaves out, and an agent's share of
those due is its turn. -/
theorem everyAgentHasItsTurnInASystemStep : Obligations.EveryAgentHasItsTurnInASystemStep := by
  intro s t hinv hcall hb hst
  have ⟨ha, _⟩ := (State.inv_iff s).mp hinv
  have hpos := ha.nodes_pos
  obtain ⟨t', h⟩ := systemStep_endsIn hinv hcall hb
  obtain rfl : t' = t := by simpa using h.run.symm.trans hst
  have hmem (x : Nat × Format) (hx : x ∈ systemOperations s) := mem_due hb hpos (h.ops.sublist.subset hx)
  refine ⟨fun hh => ⟨fun n nd hn => h.node_turns hb hh hn, h.bus_turns hb hh hpos⟩, fun hh => ⟨fun n nd hn => ?_, fun x hx => ?_⟩,
    fun x hx => ?_⟩
  · have hops : systemOperations s = s.due := (hh ▸ h.ops).eq_of_halted
    rw [hops, due_share_ctl hb hn]
  · obtain ⟨-, -, -, hhost⟩ := hmem x hx
    exact hhost hh
  · obtain ⟨hlt, hfn, hbus, -⟩ := hmem x hx
    exact ⟨hlt, hfn, hbus⟩

end Sys2Proof.Machine
end

section
/-! The end of a system step: every emit stands on its port for the next one, and every order of a fan-in port can be drawn (20_memory
R51 to R53, 41_physical R138). -/
namespace Sys2Proof.Machine

/-- Every permutation has a code (log 5). -/
theorem exists_arrange_eq {α : Type} (l l' : List α) (h : l'.Perm l) : ∃ code, arrange l code = l' := by
  induction l generalizing l' with
  | nil => exact ⟨[], h.eq_nil.symm⟩
  | cons x xs ih =>
    obtain ⟨a, b, rfl⟩ := List.append_of_mem (h.mem_iff.mpr List.mem_cons_self)
    obtain ⟨code, hcode⟩ := ih (a ++ b) (List.perm_middle.symm.trans h).cons_inv
    exact ⟨a.length :: code, by rw [arrange, List.tail_cons, hcode, List.headD_cons, insertAt_length_append]⟩

theorem perm_iff_exists_arrange {α : Type} (l l' : List α) : l'.Perm l ↔ ∃ code, arrange l code = l' :=
  ⟨exists_arrange_eq l l', fun ⟨code, h⟩ => h ▸ arrange_perm l code⟩

theorem State.commit_wLow (s : State) :
    s.commit.wires.wLow = arrange (s.nodes.flatMap fun nd => nd.out.canLow) s.draw.low := rfl

theorem State.commit_wHigh (s : State) :
    s.commit.wires.wHigh = arrange (s.nodes.flatMap fun nd => nd.out.canHigh) s.draw.high := rfl

theorem State.commit_wdState (s : State) :
    s.commit.wd.wdState = arrange (s.nodes.flatMap fun nd => nd.out.report) s.draw.report := rfl

/-- What a node finds on its ports in the next system step (R52). -/
theorem State.commit_node (s : State) (n : Nat) (nd : Node) (h : s.nodes[n]? = some nd) :
    s.commit.nodes[n]? = some (nd.deliver (framesFor s.sched (s.t + 1) n) s.wires.busLow s.wires.busHigh) := by
  rw [State.commit_nodes, getElem?_deliverNodes, h, Nat.zero_add]
  rfl

theorem State.nextAgent_of_wd (s : State) (h : s.seq.stage = .wd) : s.nextAgent = s.commit := by
  simp [State.nextAgent, h]

theorem State.nextAgent_of_last_halted (s : State) (hs : s.seq.stage = .ctl) (hn : s.nodes.length ≤ s.seq.node + 1)
    (hh : s.seq.halted = true) : s.nextAgent = s.commit := by
  simp [State.nextAgent, hs, hh, Nat.not_lt.mpr hn]

/-- Without a draw the fan-in order is ascending by node. -/
theorem State.draw_of_nil (s : State) (h : s.draws = []) : s.draw = ⟨[], [], []⟩ := by
  rw [State.draw, h, List.headD_nil]

/-- Settles O56: a commit delivers each port from its emits; the fan-in lists are arranged by the draw, whose codes are exactly the
permutations. -/
theorem emitsAreDeliveredOneStepLater : Obligations.EmitsAreDeliveredOneStepLater := by
  refine ⟨fun s => ⟨rfl, length_deliverNodes _ _ _ _ _ _, s.commit_node, arrange_perm _ _, arrange_perm _ _, rfl, rfl, rfl, rfl, rfl,
    arrange_perm _ _, rfl, rfl, rfl, rfl, rfl, rfl, rfl, rfl, s.nextAgent_of_wd, s.nextAgent_of_last_halted⟩, ?_, fun s h => ?_,
    perm_iff_exists_arrange⟩
  · intro s lows highs reports hlow hhigh hreport
    obtain ⟨low, hlow⟩ := exists_arrange_eq _ _ hlow
    obtain ⟨high, hhigh⟩ := exists_arrange_eq _ _ hhigh
    obtain ⟨report, hreport⟩ := exists_arrange_eq _ _ hreport
    exact ⟨⟨low, high, report⟩, hlow, hhigh, hreport, rfl⟩
  · rw [State.commit_wLow, State.commit_wHigh, State.commit_wdState, s.draw_of_nil h]
    exact ⟨arrange_nil _, arrange_nil _, arrange_nil _⟩

end Sys2Proof.Machine
end

section
/-! Where an operation's operand is not there: the model's named stops (log 12), and ENQ of any frame (log 8). -/
namespace Sys2Proof.Machine

theorem withHead_of_nil (nd : Node) (k : TxEntry → Result) (h : nd.ctl.txq = []) : withHead nd k = .fault .noQueueHead := by
  simp [withHead, h]

theorem txWrite_of_nil (s : State) (nd : Node) (h : nd.ctl.txq = []) : txWrite s nd = .fault .noQueueHead := withHead_of_nil nd _ h

theorem txWrite_of_no_bit (s : State) (nd : Node) (h : TxEntry) (q : List TxEntry) (hq : nd.ctl.txq = h :: q)
    (hb : h.stream[h.off.toNat]? = none) : txWrite s nd = .fault .streamEnd := by
  rw [txWrite, withHead_of_cons nd h q _ hq]
  simp [hb]

theorem lastIndex_of_zero (h : TxEntry) (ho : h.off = 0) : lastIndex h = .error .noLastSent := by
  simp [lastIndex, ho]

/-- The sending rows without a head entry. -/
theorem exec_of_empty_queue (s : State) (nd : Node) (i : Instr) (hn : s.node? = some nd) (hq : nd.ctl.txq = [])
    (hi : (∃ c, i = .waitGo c) ∨ (∃ b c, i = .arbMatch b c) ∨ (∃ b c, i = .arbWon b c) ∨ (∃ c, i = .arbLost c) ∨
      (∃ c, i = .arbBusfault c) ∨ (∃ b c, i = .txNext b c) ∨ (∃ b c, i = .txDone b c)) : exec i s = .fault .noQueueHead := by
  have hstop (k : Node → Result) (hk : k nd = .fault .noQueueHead) : withNode s k = .fault .noQueueHead :=
    (withNode_of_node s nd k hn).trans hk
  rcases hi with ⟨c, rfl⟩ | ⟨b, c, rfl⟩ | ⟨b, c, rfl⟩ | ⟨c, rfl⟩ | ⟨c, rfl⟩ | ⟨b, c, rfl⟩ | ⟨b, c, rfl⟩
  case inl | inr.inl | inr.inr.inl | inr.inr.inr.inr.inr.inl => exact hstop _ (txWrite_of_nil s _ hq)
  all_goals exact hstop _ (withHead_of_nil nd _ hq)

/-- The rows that write a bit, at the end of the stream. -/
theorem exec_of_stream_end (s : State) (nd : Node) (h : TxEntry) (q : List TxEntry) (i : Instr) (hn : s.node? = some nd)
    (hq : nd.ctl.txq = h :: q) (hb : h.stream[h.off.toNat]? = none)
    (hi : (∃ c, i = .waitGo c) ∨ (∃ b c, i = .arbMatch b c) ∨ (∃ b c, i = .arbWon b c) ∨ (∃ b c, i = .txNext b c)) :
    exec i s = .fault .streamEnd := by
  rcases hi with ⟨c, rfl⟩ | ⟨b, c, rfl⟩ | ⟨b, c, rfl⟩ | ⟨b, c, rfl⟩ <;>
    exact (withNode_of_node s nd _ hn).trans (txWrite_of_no_bit s _ h q hq hb)

/-- The rows that speak of the last bit sent, where none is. -/
theorem exec_of_nothing_sent (s : State) (nd : Node) (h : TxEntry) (q : List TxEntry) (i : Instr) (hn : s.node? = some nd)
    (hq : nd.ctl.txq = h :: q) (ho : h.off = 0) (hi : (∃ c, i = .arbLost c) ∨ (∃ c, i = .arbBusfault c)) :
    exec i s = .fault .noLastSent := by
  rcases hi with ⟨c, rfl⟩ | ⟨c, rfl⟩
  · rw [exec, execArbLost, withNode_of_node s nd _ hn, withHead_of_cons nd h q _ hq, lastIndex_of_zero h ho]
  · rw [exec, execArbBusfault, withNode_of_node s nd _ hn, withHead_of_cons nd h q _ hq, lastIndex_of_zero h ho]

/-- A write of the node whose turn it is changes that node only. -/
theorem onlyNode_putNode (s : State) (nd nd' : Node) (hn : s.node? = some nd) : OnlyNode s (s.putNode nd') nd' :=
  ⟨s.putNode_node? nd nd' hn, s.putNode_other nd', rfl, rfl, rfl, rfl, rfl, rfl, rfl, rfl, rfl, rfl, rfl⟩

theorem execEnq_of_frame (s : State) (nd : Node) (f : Frame) (hn : s.node? = some nd) (hf : enqFrame s nd = some f) :
    exec .enq s = .next (s.putNode { nd with ctl := nd.ctl.push (newEntry f) }) := by
  rw [exec, execEnq, withNode_of_node s nd _ hn, hf]

theorem execWiresResolve_of_nil (s : State) (h : s.wires.lows = [] ∨ s.wires.highs = []) :
    exec .wiresResolve s = .fault .noSample := by
  rw [exec, execWiresResolve]
  split
  · next hl hh => rcases h with h | h <;> simp_all
  · rfl

/-- Settles O28: each operation stops at the operand it reads first and does not find. -/
theorem operationsOutsideTheirDomain : Obligations.OperationsOutsideTheirDomain := by
  refine ⟨exec_of_empty_queue, exec_of_stream_end, exec_of_nothing_sent, fun s nd hn hf => ?_, fun s nd f hn hf => ?_,
    fun s nd e b hn he => ?_, execWiresResolve_of_nil⟩
  · rw [exec, execEnq, withNode_of_node s nd _ hn, hf]
  · exact ⟨_, rawStream f, _, _, execEnq_of_frame s nd f hn hf, rfl, onlyNode_putNode s nd _ hn⟩
  · rw [exec, execRxDone, withNode_of_node s nd _ hn, he]

end Sys2Proof.Machine
end

section
/-! The order of the agents in a system step has no effect (20_memory R54): an operation reads the parameters, the input ports and its
own agent's registers and emits, and writes only these registers and emits. -/
namespace Sys2Proof.Machine

/-! ## The parts of a state -/

/-- Of a node what its controller writes: the registers and the emits on the controller's three ports (R32). -/
def Node.ctlPart (nd : Node) : Controller × List Bit × List Frame × List StateReport :=
  (nd.ctl, nd.out.txBit, nd.out.frameOut, nd.out.report)

/-- Of a node what its transceiver writes: FAULT and the emits on the transceiver's three ports (R33). -/
def Node.xcvPart (nd : Node) : FaultReg × List Voltage × List Voltage × List Bit :=
  (nd.xcvFault, nd.out.canLow, nd.out.canHigh, nd.out.rxBit)

/-- What an actor's part of the state holds. -/
abbrev Actor.Part : Actor → Type
  | .controller _ => Option (Controller × List Bit × List Frame × List StateReport)
  | .transceiver _ => Option (FaultReg × List Voltage × List Voltage × List Bit)
  | .wires => Wires
  | .watchdog => Watchdog
  | .codec => FnUnit

/-- An actor's part of the state. -/
def State.part (s : State) : (a : Actor) → a.Part
  | .controller n => (s.nodes.map Node.ctlPart)[n]?
  | .transceiver n => (s.nodes.map Node.xcvPart)[n]?
  | .wires => s.wires
  | .watchdog => s.wd
  | .codec => s.fn

/-- What every actor may read and none writes: the parameters and the nodes' input ports. -/
def State.inputs (s : State) : Config × List NodeIn := (s.cfg, s.nodes.map Node.inp)

theorem Node.eq_of_parts {nd nd' : Node} (hi : nd.inp = nd'.inp) (hc : nd.ctlPart = nd'.ctlPart) (hx : nd.xcvPart = nd'.xcvPart) :
    nd = nd' := by
  obtain ⟨ctl, xcvFault, inp, ⟨⟩⟩ := nd
  obtain ⟨ctl', xcvFault', inp', ⟨⟩⟩ := nd'
  simp_all [Node.ctlPart, Node.xcvPart]

/-- The nodes are the inputs and the actors' parts. -/
theorem State.nodes_eq_of_parts {s t : State} (hi : s.inputs = t.inputs) (hp : ∀ a, s.part a = t.part a) : s.nodes = t.nodes := by
  refine List.ext_getElem? fun n => ?_
  have hinp := congrArg (·[n]?) (congrArg Prod.snd hi)
  have hctl := hp (.controller n)
  have hxcv := hp (.transceiver n)
  simp only [State.inputs, State.part, List.getElem?_map] at hinp hctl hxcv
  cases hs : s.nodes[n]? with
  | none =>
    rw [hs, Option.map_none] at hinp
    exact (Option.map_eq_none_iff.mp hinp.symm).symm
  | some nd =>
    rw [hs, Option.map_some] at hinp hctl hxcv
    obtain ⟨nd', ht, hi⟩ := Option.map_eq_some_iff.mp hinp.symm
    rw [ht, Option.map_some] at hctl hxcv
    rw [ht, Node.eq_of_parts hi.symm (Option.some.inj hctl) (Option.some.inj hxcv)]

/-! ## Local operations -/

/-- From s to t nothing but a's part changed, as far as an actor can tell. -/
def OnlyPart (a : Actor) (s t : State) : Prop := s.inputs = t.inputs ∧ ∀ b, b ≠ a → s.part b = t.part b

/-- Actor a cannot tell s' from s: the same turn, inputs and part. -/
structure Alike (a : Actor) (s s' : State) : Prop where
  node : s.seq.node = s'.seq.node
  enqIdx : s.seq.enqIdx = s'.seq.enqIdx
  inputs : s.inputs = s'.inputs
  part : s.part a = s'.part a

/-- An operation of a that answers r in s and r' in s': where it completes in s it changes a's part only, and it completes in s' with
the same part. -/
def Local (a : Actor) (s : State) (r r' : Result) : Prop :=
  ∀ t, r = .next t → ∃ t', r' = .next t' ∧ t.part a = t'.part a ∧ OnlyPart a s t

theorem Alike.cfg {a : Actor} {s s' : State} (h : Alike a s s') : s.cfg = s'.cfg := congrArg Prod.fst h.inputs

theorem OnlyPart.refl (a : Actor) (s : State) : OnlyPart a s s := ⟨rfl, fun _ _ => rfl⟩

theorem Local.noEffect {a : Actor} {s s' : State} (h : Alike a s s') : Local a s (noEffect s) (noEffect s') := by
  rintro t ⟨⟩
  exact ⟨s', rfl, h.part, .refl a s⟩

theorem Local.of_fault {a : Actor} {s : State} {e : Fault} {r : Result} : Local a s (.fault e) r := by
  rintro t ⟨⟩

theorem Local.of_refused {a : Actor} {s : State} {e : Refusal} {r : Result} : Local a s (.refused e) r := by
  rintro t ⟨⟩

/-! ### The two agents of a node -/

/-- Node `nd` with the transceiver's part of `x`. -/
def Node.withXcvOf (nd x : Node) : Node :=
  { nd with xcvFault := x.xcvFault, out := { nd.out with canLow := x.out.canLow, canHigh := x.out.canHigh, rxBit := x.out.rxBit } }

/-- Node `nd` with the controller's part of `x`. -/
def Node.withCtlOf (nd x : Node) : Node :=
  { nd with ctl := x.ctl, out := { nd.out with txBit := x.out.txBit, frameOut := x.out.frameOut, report := x.out.report } }

/-- What a function of the nodes gives for the node whose turn it is. -/
theorem State.getElem?_map_node {α : Type} {s : State} {nd : Node} (g : Node → α) (hn : s.node? = some nd) :
    (s.nodes.map g)[s.seq.node]? = some (g nd) := by
  rw [List.getElem?_map, show s.nodes[s.seq.node]? = some nd from hn, Option.map_some]

theorem Alike.exists_node {a : Actor} {s s' : State} (h : Alike a s s') {nd : Node} (hn : s.node? = some nd) :
    ∃ nd', s'.node? = some nd' ∧ nd.inp = nd'.inp := by
  have hinp : s.nodes.map Node.inp = s'.nodes.map Node.inp := congrArg Prod.snd h.inputs
  have hnode := State.getElem?_map_node Node.inp hn
  rw [hinp, h.node, List.getElem?_map] at hnode
  obtain ⟨nd', hn', he⟩ := Option.map_eq_some_iff.mp hnode
  exact ⟨nd', hn', he.symm⟩

theorem Alike.ctl_node {s s' : State} (h : Alike (.controller s.seq.node) s s') {nd : Node} (hn : s.node? = some nd) :
    ∃ x, s'.node? = some (nd.withXcvOf x) := by
  obtain ⟨nd', hn', hi⟩ := h.exists_node hn
  have hpart' := State.getElem?_map_node Node.ctlPart hn'
  rw [← h.node] at hpart'
  have hc : nd.ctlPart = nd'.ctlPart := Option.some.inj ((State.getElem?_map_node Node.ctlPart hn).symm.trans (h.part.trans hpart'))
  have he : nd' = nd.withXcvOf nd' := Node.eq_of_parts hi.symm hc.symm rfl
  exact ⟨nd', he ▸ hn'⟩

theorem Alike.xcv_node {s s' : State} (h : Alike (.transceiver s.seq.node) s s') {nd : Node} (hn : s.node? = some nd) :
    ∃ x, s'.node? = some (nd.withCtlOf x) := by
  obtain ⟨nd', hn', hi⟩ := h.exists_node hn
  have hpart' := State.getElem?_map_node Node.xcvPart hn'
  rw [← h.node] at hpart'
  have hx : nd.xcvPart = nd'.xcvPart := Option.some.inj ((State.getElem?_map_node Node.xcvPart hn).symm.trans (h.part.trans hpart'))
  have he : nd' = nd.withCtlOf nd' := Node.eq_of_parts hi.symm rfl hx.symm
  exact ⟨nd', he ▸ hn'⟩

theorem Local.withNode_ctl {s s' : State} (h : Alike (.controller s.seq.node) s s') {k k' : Node → Result}
    (hk : ∀ nd x, s.node? = some nd → s'.node? = some (nd.withXcvOf x) →
      Local (.controller s.seq.node) s (k nd) (k' (nd.withXcvOf x))) :
    Local (.controller s.seq.node) s (withNode s k) (withNode s' k') := by
  intro t ht
  obtain ⟨nd, hn, ht⟩ := withNode_next s t k ht
  obtain ⟨x, hx⟩ := h.ctl_node hn
  rw [withNode_of_node s' _ k' hx]
  exact hk nd x hn hx t ht

theorem Local.withNode_xcv {s s' : State} (h : Alike (.transceiver s.seq.node) s s') {k k' : Node → Result}
    (hk : ∀ nd x, s.node? = some nd → s'.node? = some (nd.withCtlOf x) →
      Local (.transceiver s.seq.node) s (k nd) (k' (nd.withCtlOf x))) :
    Local (.transceiver s.seq.node) s (withNode s k) (withNode s' k') := by
  intro t ht
  obtain ⟨nd, hn, ht⟩ := withNode_next s t k ht
  obtain ⟨x, hx⟩ := h.xcv_node hn
  rw [withNode_of_node s' _ k' hx]
  exact hk nd x hn hx t ht

/-- A write to the controller's part of the node whose turn it is. -/
theorem onlyPart_ctl {s : State} {nd w : Node} (q : Sequencer) (hn : s.node? = some nd) (hi : w.inp = nd.inp)
    (hx : w.xcvPart = nd.xcvPart) : OnlyPart (.controller s.seq.node) s { s.putNode w with seq := q } := by
  refine ⟨congrArg (Prod.mk s.cfg) (map_set_eq_map Node.inp hn hi).symm, fun b hb => ?_⟩
  cases b with
  | controller m =>
    have hm : s.seq.node ≠ m := fun he => hb (he ▸ rfl)
    simp [State.part, List.map_set, List.getElem?_set_ne hm]
  | transceiver m => exact congrArg (·[m]?) (map_set_eq_map Node.xcvPart hn hx).symm
  | wires | watchdog | codec => rfl

/-- A write to the transceiver's part of the node whose turn it is. -/
theorem onlyPart_xcv {s : State} {nd w : Node} (q : Sequencer) (hn : s.node? = some nd) (hi : w.inp = nd.inp)
    (hc : w.ctlPart = nd.ctlPart) : OnlyPart (.transceiver s.seq.node) s { s.putNode w with seq := q } := by
  refine ⟨congrArg (Prod.mk s.cfg) (map_set_eq_map Node.inp hn hi).symm, fun b hb => ?_⟩
  cases b with
  | transceiver m =>
    have hm : s.seq.node ≠ m := fun he => hb (he ▸ rfl)
    simp [State.part, List.map_set, List.getElem?_set_ne hm]
  | controller m => exact congrArg (·[m]?) (map_set_eq_map Node.ctlPart hn hc).symm
  | wires | watchdog | codec => rfl

/-- A controller's write of the same part in both states; `raise` ends its turn. -/
theorem Local.write_ctl {s s' t t' : State} {nd x w w' : Node} (h : Alike (.controller s.seq.node) s s') (hn : s.node? = some nd)
    (hx : s'.node? = some x) (ht : t = { s.putNode w with seq := t.seq }) (ht' : t' = { s'.putNode w' with seq := t'.seq })
    (hi : w.inp = nd.inp) (hw : w.xcvPart = nd.xcvPart) (hc : w.ctlPart = w'.ctlPart) :
    Local (.controller s.seq.node) s (.next t) (.next t') := by
  rintro _ ⟨⟩
  refine ⟨t', rfl, ?_, ht ▸ onlyPart_ctl _ hn hi hw⟩
  have hpart := State.getElem?_map_node Node.ctlPart (s.putNode_node? nd w hn)
  have hpart' := State.getElem?_map_node Node.ctlPart (s'.putNode_node? x w' hx)
  rw [State.putNode_seq, ← h.node] at hpart'
  rw [ht, ht']
  exact hpart.trans ((congrArg some hc).trans hpart'.symm)

/-- A transceiver's write of the same part in both states; `raise` ends its turn. -/
theorem Local.write_xcv {s s' t t' : State} {nd x w w' : Node} (h : Alike (.transceiver s.seq.node) s s') (hn : s.node? = some nd)
    (hx : s'.node? = some x) (ht : t = { s.putNode w with seq := t.seq }) (ht' : t' = { s'.putNode w' with seq := t'.seq })
    (hi : w.inp = nd.inp) (hw : w.ctlPart = nd.ctlPart) (hc : w.xcvPart = w'.xcvPart) :
    Local (.transceiver s.seq.node) s (.next t) (.next t') := by
  rintro _ ⟨⟩
  refine ⟨t', rfl, ?_, ht ▸ onlyPart_xcv _ hn hi hw⟩
  have hpart := State.getElem?_map_node Node.xcvPart (s.putNode_node? nd w hn)
  have hpart' := State.getElem?_map_node Node.xcvPart (s'.putNode_node? x w' hx)
  rw [State.putNode_seq, ← h.node] at hpart'
  rw [ht, ht']
  exact hpart.trans ((congrArg some hc).trans hpart'.symm)

@[simp] theorem Node.withXcvOf_ctl (nd x : Node) : (nd.withXcvOf x).ctl = nd.ctl := rfl
@[simp] theorem Node.withXcvOf_inp (nd x : Node) : (nd.withXcvOf x).inp = nd.inp := rfl

theorem Local.withHead {a : Actor} {s : State} {nd nd' : Node} {k k' : TxEntry → Result} (hc : nd.ctl = nd'.ctl)
    (hk : ∀ e, Local a s (k e) (k' e)) : Local a s (withHead nd k) (withHead nd' k') := by
  unfold Sys2Proof.Machine.withHead
  rw [← hc]
  split
  · exact hk _
  · exact .of_fault

theorem Local.txWrite {s s' : State} (h : Alike (.controller s.seq.node) s s') {nd x : Node} (hn : s.node? = some nd)
    (hx : s'.node? = some (nd.withXcvOf x)) (c : Controller) :
    Local (.controller s.seq.node) s (txWrite s { nd with ctl := c }) (txWrite s' { nd.withXcvOf x with ctl := c }) := by
  refine .withHead rfl fun e => ?_
  cases e.stream[e.off.toNat]? with
  | none => exact .of_fault
  | some b => exact .write_ctl h hn hx rfl rfl rfl rfl rfl

theorem Alike.enqFrame {a : Actor} {s s' : State} (h : Alike a s s') (nd x : Node) :
    enqFrame s nd = enqFrame s' (nd.withXcvOf x) := by
  rw [Sys2Proof.Machine.enqFrame, Sys2Proof.Machine.enqFrame, h.enqIdx, Node.withXcvOf_inp]

theorem Local.drivePair {s s' : State} (h : Alike (.transceiver s.seq.node) s s') (lo hi : Voltage) :
    Local (.transceiver s.seq.node) s (drivePair s lo hi) (drivePair s' lo hi) :=
  .withNode_xcv h fun _ _ hn hx => .write_xcv h hn hx rfl rfl rfl rfl rfl

/-! ### The other actors -/

/-- The wires write the same in both states; `raise` ends their turn. -/
theorem Local.write_wires {s t t' : State} (ht : t = { s with wires := t.wires, seq := t.seq }) (hw : t.wires = t'.wires) :
    Local .wires s (.next t) (.next t') := by
  rintro _ ⟨⟩
  refine ⟨t', rfl, hw, ?_⟩
  rw [ht]
  refine ⟨rfl, fun b hb => ?_⟩
  cases b with
  | wires => exact absurd rfl hb
  | controller | transceiver | watchdog | codec => rfl

theorem Local.write_watchdog {s t t' : State} (ht : t = { s with wd := t.wd }) (hw : t.wd = t'.wd) :
    Local .watchdog s (.next t) (.next t') := by
  rintro _ ⟨⟩
  refine ⟨t', rfl, hw, ?_⟩
  rw [ht]
  refine ⟨rfl, fun b hb => ?_⟩
  cases b with
  | watchdog => exact absurd rfl hb
  | controller | transceiver | wires | codec => rfl

theorem Local.fnReturn {s s' : State} (h : Alike .codec s s') (r : FnResult) : Local .codec s (fnReturn s r) (fnReturn s' r) := by
  have hfn : s.fn = s'.fn := h.part
  rintro _ ⟨⟩
  refine ⟨_, rfl, congrArg (fun u : FnUnit => { u with result := r }) hfn, rfl, fun b hb => ?_⟩
  cases b with
  | codec => exact absurd rfl hb
  | controller | transceiver | wires | watchdog => rfl

/-! ### Every operation is local -/

/-- Every operation reads and writes no more than its actor's part, besides the inputs. -/
theorem exec_local (i : Instr) (s s' : State) (h : Alike (actorOf s.seq.node i) s s') :
    Local (actorOf s.seq.node i) s (exec i s) (exec i s') := by
  have hcfg := h.cfg
  cases i with
  | ctlHalted | ctlNobit | idleStay | enqHalted | xcvWrnone | xcvRdnone | wiresIdle | wdgDormant => exact .noEffect h
  | ctlBadState5 | ctlBadState67 | ctlBadStateRxc | ctlMulti | rxHdrbad | rxBadeof | enqBad | idleSof | idleStart | waitSof
  | waitCount | rxData | rxSkip | rxHdr | rxTrail =>
    exact .withNode_ctl h fun _ _ hn hx => .write_ctl h hn hx rfl rfl rfl rfl rfl
  | waitGo | arbMatch | arbWon | txNext => exact .withNode_ctl h fun _ _ hn hx => .txWrite h hn hx _
  | arbLost | arbBusfault =>
    refine .withNode_ctl h fun _ _ hn hx => .withHead rfl fun e => ?_
    cases lastIndex e with
    | error => exact .of_fault
    | ok j => exact .write_ctl h hn hx rfl rfl rfl rfl rfl
  | txDone => exact .withNode_ctl h fun _ _ hn hx => .withHead rfl fun e => .write_ctl h hn hx rfl rfl rfl rfl rfl
  | rxDone =>
    refine .withNode_ctl h fun nd x hn hx => ?_
    rw [Node.withXcvOf_ctl]
    cases bitsToFrame nd.ctl.rx.data with
    | error => exact .of_fault
    | ok f => exact .write_ctl h hn hx rfl rfl rfl rfl rfl
  | enqFull =>
    refine .withNode_ctl h fun nd x hn hx => ?_
    rw [hcfg]
    cases s'.cfg.txqDepth with
    | none => exact .noEffect h
    | some d => exact .write_ctl h hn hx rfl rfl rfl rfl rfl
  | enq =>
    refine .withNode_ctl h fun nd x hn hx => ?_
    rw [← h.enqFrame nd x]
    cases enqFrame s nd with
    | none => exact .of_fault
    | some f => exact .write_ctl h hn hx rfl rfl rfl rfl rfl
  | xcvWrmulti | xcvRdmulti | xcvRdbad | xcvRd0 | xcvRd1 =>
    exact .withNode_xcv h fun _ _ hn hx => .write_xcv h hn hx rfl rfl rfl rfl rfl
  | xcvWr0 | xcvWr1 =>
    simp only [exec, execXcvWr0, execXcvWr1, hcfg]
    exact .drivePair h _ _
  | wiresInject | wiresNoinj =>
    have hw : s.wires = s'.wires := h.part
    exact .write_wires rfl (by simp only [hw, hcfg])
  | wiresNosamples | wiresMismatch =>
    have hw : s.wires = s'.wires := h.part
    exact .write_wires rfl (by simp [State.endTurn, hw])
  | wiresLowhigh =>
    have hw : s.wires = s'.wires := h.part
    simp only [exec, execWiresLowhigh, hw]
    cases firstLowAbove s'.wires.lows s'.wires.highs with
    | none => exact .noEffect h
    | some j => exact .write_wires rfl (by simp [State.endTurn, hw])
  | wiresRange =>
    have hw : s.wires = s'.wires := h.part
    simp only [exec, execWiresRange, hw, hcfg]
    split
    · exact .write_wires rfl (by simp [State.endTurn, hw])
    · exact .noEffect h
  | wiresResolve =>
    have hw : s.wires = s'.wires := h.part
    simp only [exec, execWiresResolve, hw]
    split
    · exact .write_wires rfl rfl
    · exact .of_fault
  | wdgRequest | wdgContBusy | wdgSleep | wdgContIdle =>
    have hw : s.wd = s'.wd := h.part
    exact .write_watchdog rfl (by simp only [hw])
  | fnStuff | fnDestuff =>
    have hfn : s.fn = s'.fn := h.part
    simp only [exec, execFnStuff, execFnDestuff, hfn]
    split
    · exact .of_refused
    · exact .fnReturn h _
  | fnFrameToBits | fnFrameValid | fnArbEnd =>
    have hfn : s.fn = s'.fn := h.part
    simp only [exec, execFnFrameToBits, execFnFrameValid, execFnArbEnd, hfn]
    exact .fnReturn h _
  | fnBitsToFrame | fnDecodeWire =>
    have hfn : s.fn = s'.fn := h.part
    simp only [exec, execFnBitsToFrame, execFnDecodeWire, hfn]
    split <;> exact .fnReturn h _
  | fnReserved => exact .of_refused

/-! ## Exchange -/

/-- An operation as an actor's own turn: in a state with the same inputs and the same part of the actor it does the same. -/
theorem actAs_local {m k : Nat} {i : Instr} {s t s' : State} (h : actAs m k i s = .next t) (hi : s.inputs = s'.inputs)
    (hp : s.part (actorOf m i) = s'.part (actorOf m i)) :
    ∃ t', actAs m k i s' = .next t' ∧ t.part (actorOf m i) = t'.part (actorOf m i) ∧ OnlyPart (actorOf m i) s t :=
  exec_local i { s with seq := { s.seq with node := m, enqIdx := k, ended := false } }
    { s' with seq := { s'.seq with node := m, enqIdx := k, ended := false } } ⟨rfl, rfl, hi, hp⟩ t h

theorem actAs_onlyPart {m k : Nat} {i : Instr} {s t : State} (h : actAs m k i s = .next t) : OnlyPart (actorOf m i) s t := by
  obtain ⟨-, -, -, h⟩ := actAs_local h rfl rfl
  exact h

/-- Settles O57: an operation finds its inputs and its own part as they were, whether the other actor's operation came before it or
not, and it leaves the other actor's part alone. -/
theorem orderOfAgentsHasNoEffect : Obligations.OrderOfAgentsHasNoEffect := by
  intro s s1 s12 i j m n k l hne hi hj
  obtain ⟨hin1, hrest1⟩ := actAs_onlyPart hi
  obtain ⟨hin12, hrest12⟩ := actAs_onlyPart hj
  obtain ⟨s2, hj2, hpartj, -⟩ := actAs_local hj hin1.symm (hrest1 _ hne.symm).symm
  obtain ⟨hin2, hrest2⟩ := actAs_onlyPart hj2
  obtain ⟨s21, hi2, hparti, -⟩ := actAs_local hi hin2 (hrest2 _ hne)
  obtain ⟨hin21, hrest21⟩ := actAs_onlyPart hi2
  have hinputs : s21.inputs = s12.inputs := ((hin21.symm.trans hin2.symm).trans hin1).trans hin12
  have hparts (a : Actor) : s21.part a = s12.part a := by
    by_cases ha : a = actorOf m i
    · subst ha
      exact hparti.symm.trans (hrest12 _ hne)
    · by_cases hb : a = actorOf n j
      · subst hb
        exact (hrest21 _ ha).symm.trans hpartj.symm
      · calc s21.part a = s2.part a := (hrest21 a ha).symm
          _ = s.part a := (hrest2 a hb).symm
          _ = s1.part a := hrest1 a ha
          _ = s12.part a := hrest12 a hb
  exact ⟨s2, s21, hj2, hi2, State.nodes_eq_of_parts hinputs hparts, hparts .wires, hparts .watchdog, hparts .codec⟩

end Sys2Proof.Machine
end

section
/-! The encoding as a whole (30_encoding R82, section 4): the decoder reads every operation's word back, every word is some
operation's, and a word packed into bytes is unpacked again (log 13). -/
namespace Sys2Proof

open Sys2Proof.Machine

/-! ## Operations and words -/

/-- The family RoundTrip of Laws/PerInstr.lean, one lemma a row, put together in the order of the constructors. -/
theorem decode_encode (i : Instr) : WellFormed i = true → decode (encode i) = some i := by
  open Laws.RoundTrip in
  exact Instr.rec (motive := Statement) ctlHalted ctlBadState5 ctlBadState67 ctlMulti ctlNobit idleSof idleStart idleStay
    waitSof waitGo waitCount arbMatch arbWon arbLost arbBusfault txNext txDone rxData rxSkip rxHdr rxHdrbad rxTrail rxDone
    rxBadeof ctlBadStateRxc enqHalted enqBad enqFull enq xcvWrmulti xcvWrnone xcvWr0 xcvWr1 xcvRdmulti xcvRdnone xcvRd0 xcvRd1
    xcvRdbad wiresInject wiresNoinj wiresIdle wiresNosamples wiresMismatch wiresLowhigh wiresRange wiresResolve wdgDormant
    wdgRequest wdgContBusy wdgSleep wdgContIdle fnStuff fnDestuff fnFrameToBits fnBitsToFrame fnFrameValid fnArbEnd fnDecodeWire
    fnReserved i

/-- Only rows 4 and 5 of R84 leave a term out. -/
theorem wellFormed_of_not_ctl (i : Instr) (h : (encode i).format ≠ .ctl) : WellFormed i = true := by
  cases i with
  | ctlMulti | ctlNobit => exact absurd rfl h
  | _ => rfl

/-- Rows 2 and 3 of R84 take the reserved STATE codes before rows 4 and 5. -/
theorem wellFormed_of_firstMatch_ctlRows (w : BitVec 10) (i : Instr) (h : firstMatch ctlRows w = some i) : WellFormed i = true := by
  have hall : ∀ w, (firstMatch ctlRows w).all WellFormed = true := by decide +kernel
  simpa [h] using hall w

theorem wellFormed_of_decode (sel : Selector) (i : Instr) (h : decode sel = some i) : WellFormed i = true := by
  have henc := encode_of_decode sel i h
  cases sel with
  | ctl w => exact wellFormed_of_firstMatch_ctlRows w i h
  | _ => exact wellFormed_of_not_ctl i (by simp [henc, Selector.format])

/-- Settles O2: every word has a row, the row's operation keeps every bit of the word, and it is one a word decodes to. -/
theorem everySelectorWordChoosesAnOperation : Obligations.EverySelectorWordChoosesAnOperation := by
  intro sel
  obtain ⟨i, hi⟩ := exists_decode sel
  exact ⟨i, hi, wellFormed_of_decode sel i hi, encode_of_decode sel i hi⟩

/-! ## Words and bytes (log 13) -/

theorem field_append_high {n m : Nat} (x : BitVec n) (y : BitVec m) : field (x ++ y) m n = x :=
  BitVec.extractLsb'_append_eq_left

theorem field_append_low {n m : Nat} (x : BitVec n) (y : BitVec m) : field (x ++ y) 0 m = y :=
  BitVec.extractLsb'_append_eq_right

theorem field_high_append_field_low {n m : Nat} (x : BitVec (n + m)) : field x m n ++ field x 0 m = x :=
  (BitVec.extractLsb'_append_extractLsb'_eq_extractLsb' (Nat.zero_add m).symm).trans BitVec.extractLsb'_eq_self

/-- A byte whose format number is not 0 is a whole word. -/
theorem selectorOfBytes_one (b : Byte) (rest : List Byte) (sel : Selector) (htag : field b 5 3 ≠ 0)
    (h : selectorOfByte b = .ok sel) : selectorOfBytes (b :: rest) = .ok (sel, rest) := by
  refine (if_neg htag).trans ?_
  rw [h]

/-- A byte whose format number is 0 begins a CTL word. -/
theorem selectorOfBytes_two (b b' : Byte) (rest : List Byte) (htag : field b 5 3 = 0) (hlt : b.toNat < 4) :
    selectorOfBytes (b :: b' :: rest) = .ok (.ctl (field b 0 2 ++ b'), rest) :=
  (if_pos htag).trans (if_pos hlt)

theorem selectorOfBytes_tagged (tag : BitVec 3) (low : BitVec 5) (rest : List Byte) (sel : Selector) (htag : tag ≠ 0)
    (h : selectorOfByte (tag ++ low) = .ok sel) : selectorOfBytes ((tag ++ low) :: rest) = .ok (sel, rest) :=
  selectorOfBytes_one _ rest sel (by rwa [field_append_high]) h

theorem selectorOfBytes_ctl (w : BitVec 10) (rest : List Byte) :
    selectorOfBytes ((Selector.ctl w).bytes ++ rest) = .ok (.ctl w, rest) := by
  have hhigh : ∀ x : BitVec 2, field (0#6 ++ x : Byte) 5 3 = 0 ∧ (0#6 ++ x : Byte).toNat < 4 := by decide
  obtain ⟨htag, hlt⟩ := hhigh (field w 8 2)
  have hword : field (0#6 ++ field w 8 2 : Byte) 0 2 ++ field w 0 8 = w := by
    rw [field_append_low]
    exact field_high_append_field_low (n := 2) (m := 8) w
  have hread := selectorOfBytes_two _ (field w 0 8) rest htag hlt
  rwa [hword] at hread

/-- The first word of its bytes, and the bytes after them. -/
theorem selectorOfBytes_bytes (sel : Selector) (rest : List Byte) : selectorOfBytes (sel.bytes ++ rest) = .ok (sel, rest) := by
  cases sel with
  | ctl w => exact selectorOfBytes_ctl w rest
  | host w | xw w | xr w | wi w | wr w | wd w | fn w =>
    exact selectorOfBytes_tagged _ _ rest _ (by decide) (by revert w; decide)

/-- Settles O1: the bytes give the word back, and the word its operation. -/
theorem decodeOfEncodedBytesIsTheOperation : Obligations.DecodeOfEncodedBytesIsTheOperation := by
  intro i rest hwf
  simp only [decodeBytes, encodeBytes, selectorOfBytes_bytes, decode_encode i hwf]

/-- Settles O3: the words stand in the row tables. -/
theorem tableWordsDecodeToTheirRows : Obligations.TableWordsDecodeToTheirRows := by
  unfold Obligations.TableWordsDecodeToTheirRows
  decide

end Sys2Proof
end

section
/-! The step and the codec calls: a step is its operation and then the turn (30_encoding R82), no agent's operation stops under the
invariant, and a codec call writes its result only (30_encoding R91, R92, 40_codec R112). -/
namespace Sys2Proof.Machine

theorem step_of_fault {s : State} {sel : Selector} {i : Instr} {f : Fault} (hfetch : fetch s = .ok sel) (hd : decode sel = some i)
    (he : exec i s = .fault f) : step s = .fault f := by
  simp [step, hfetch, hd, he]

theorem step_of_refused {s : State} {sel : Selector} {i : Instr} {r : Refusal} (hfetch : fetch s = .ok sel)
    (hd : decode sel = some i) (he : exec i s = .refused r) : step s = .refused r := by
  simp [step, hfetch, hd, he]

/-- Settles O4: one equation of `step` for each outcome of the operation. -/
theorem stepRunsTheSelectedOperation : Obligations.StepRunsTheSelectedOperation :=
  fun _ _ _ hfetch hd => ⟨fun _ => step_of_parts hfetch hd, fun _ => step_of_fault hfetch hd, fun _ => step_of_refused hfetch hd⟩

/-- Settles O8: every agent has a word, the word a row, and the row's operation its operands. -/
theorem noStepStopsUnderTheInvariant : Obligations.NoStepStopsUnderTheInvariant :=
  fun _ => step_completes

/-! ## Codec calls -/

/-- A call that ends in `fnReturn` completes and writes its result only. -/
theorem onlyResult_of_fnReturn {s : State} {r : FnResult} {res : Result} (h : res = fnReturn s r) :
    ∃ t, res = .next t ∧ OnlyResult s t r := by
  subst h
  exact ⟨_, rfl, rfl, rfl, rfl, rfl, rfl, rfl, rfl, rfl, rfl, rfl, rfl, rfl, rfl, rfl, rfl, rfl, rfl⟩

/-- FN.bitsToFrame ends in `fnReturn` whether the bits decode or not (R106). -/
theorem exec_fnBitsToFrame (s : State) : exec .fnBitsToFrame s =
    fnReturn s (match bitsToFrame s.fn.bits with | .ok f => .frame f | .error e => .error e) := by
  simp only [exec, execFnBitsToFrame]
  cases bitsToFrame s.fn.bits <;> rfl

/-- FN.decodeWire ends in `fnReturn` whether the bits decode or not (R107). -/
theorem exec_fnDecodeWire (s : State) : exec .fnDecodeWire s =
    fnReturn s (match decodeWire s.fn.bits with | .ok p => .wire p.1 p.2 | .error e => .error e) := by
  simp only [exec, execFnDecodeWire]
  rcases decodeWire s.fn.bits with e | ⟨f, n⟩ <;> rfl

theorem rawStream_of_valid (f : Frame) (h : frameValid f = true) : rawStream f = frameToBits f := if_pos h

theorem rawArbEnd_of_valid (f : Frame) (h : frameValid f = true) : rawArbEnd f = arbEnd f := if_pos h

/-- A waiting call is the next operation (log 7). -/
theorem selected_of_call (s : State) (id : BitVec 3) (h : s.fn.call = some id) : selected s = decode (.fn id) := by
  simp [selected, fetch, h]

/-- Settles O48: every call ends in `fnReturn`, with its function's value on the operands. -/
theorem codecCallsReturnTheirFunction : Obligations.CodecCallsReturnTheirFunction := by
  refine ⟨fun s hk => ⟨?_, ?_⟩, fun s hf => ⟨?_, ?_⟩, fun s => ⟨?_, ?_, ?_, ?_, ?_⟩, selected_of_call, fun _ => rfl,
    fun s hk => ⟨if_pos hk, if_pos hk⟩, rfl⟩
  · exact onlyResult_of_fnReturn (if_neg hk)
  · exact onlyResult_of_fnReturn (if_neg hk)
  · exact rawStream_of_valid s.fn.frame hf ▸ onlyResult_of_fnReturn rfl
  · exact rawArbEnd_of_valid s.fn.frame hf ▸ onlyResult_of_fnReturn rfl
  · obtain ⟨t, ht⟩ := onlyResult_of_fnReturn (s := s) (res := exec .fnFrameToBits s) rfl
    exact ⟨t, _, ht⟩
  · obtain ⟨t, ht⟩ := onlyResult_of_fnReturn (s := s) (res := exec .fnArbEnd s) rfl
    exact ⟨t, _, ht⟩
  · exact onlyResult_of_fnReturn rfl
  · exact onlyResult_of_fnReturn (exec_fnBitsToFrame s)
  · exact onlyResult_of_fnReturn (exec_fnDecodeWire s)

end Sys2Proof.Machine
end

section
/-! Which row of R84 a bit received in Receive selects (30_encoding R87). -/
namespace Sys2Proof.Machine

/-! ## The receive class and its condition (R87) -/

theorem Assembler.inStuffed_iff (a : Assembler) :
    a.inStuffed = true ↔ a.hdr = false ∨ a.data.length < dataRegionLen a.dlc.toNat ∨ a.skip = true := by
  simp [Assembler.inStuffed, or_assoc]

/-- The header's last bit belongs to the stuffed region, whatever DLC the assembler holds. -/
theorem Assembler.inStuffed_of_header_bit (a : Assembler) (h : a.data.length + 1 = headerBits) : a.inStuffed = true := by
  refine a.inStuffed_iff.mpr (.inr (.inl ?_))
  rw [dataRegionLen]
  omega

/-- The conditions of the classes exclude each other: where one holds the class is its class. -/
theorem Assembler.rxClass_of_classCondition {a : Assembler} {b : Bit} {k : RxClass} (h : a.classCondition b k) : a.rxClass b = k := by
  cases k with
  | data =>
    obtain ⟨hin, hs, hlen⟩ := h
    simp [Assembler.rxClass, hin, hs, hlen]
  | skip =>
    have hs : a.skip = true := h
    simp [Assembler.rxClass, Assembler.inStuffed, hs]
  | hdr =>
    obtain ⟨hs, hlen, hdlc⟩ := h
    simp [Assembler.rxClass, a.inStuffed_of_header_bit hlen, hs, hlen, hdlc]
  | hdrBad =>
    obtain ⟨hs, hlen, hdlc⟩ := h
    simp [Assembler.rxClass, a.inStuffed_of_header_bit hlen, hs, hlen, hdlc]
  | trail =>
    obtain ⟨hin, ht⟩ := h
    simp [Assembler.rxClass, hin, ht]
  | done =>
    obtain ⟨hin, ht, hok⟩ := h
    simp [Assembler.rxClass, hin, ht, hok]
  | badEof =>
    obtain ⟨hin, ht, hbad⟩ := h
    rw [Assembler.rxClass, if_neg (by simp [hin]), if_neg (not_lt.mpr ht), if_neg hbad]

theorem RxClass.code_ne_reserved (k : RxClass) : k.code ≠ 0b111#3 := by
  cases k <;> decide

/-! ## The row of a class -/

/-- The Receive row of R84 for a class and the bus bit. -/
def RxClass.row : RxClass → Bit → Instr
  | .data => .rxData
  | .skip => .rxSkip
  | .hdr => .rxHdr
  | .hdrBad => .rxHdrbad
  | .trail => .rxTrail
  | .done => .rxDone
  | .badEof => .rxBadeof

/-- The word of a class's row: STATE 100, N 01, the bit, and the class's code (R83, R84). -/
theorem RxClass.encode_row (k : RxClass) (b : Bit) :
    encode (k.row b) = .ctl (BitVec.ofBool false ++ CtlState.receive ++ 0b01#2 ++ BitVec.ofBool b ++ k.code) := by
  cases k <;> rfl

theorem RxClass.wellFormed_row (k : RxClass) (b : Bit) : WellFormed (k.row b) = true := by
  cases k <;> rfl

/-! ## The word of a controller that takes one bit -/

theorem ctlCond_of_receive (c : Controller) (b : Bit) (hs : c.state = CtlState.receive) :
    ctlCond c b = .ok (c.rx.rxClass b).code := by
  rw [ctlCond, hs, if_neg (by decide), if_neg (by decide), if_neg (by decide), if_neg (by decide), if_pos rfl]

/-- At a controller's turn with one bus bit, field C of the word is the condition on that bit (R83, R86). -/
theorem fetch_of_ctlTurn {s : State} {nd : Node} {b : Bit} {x : BitVec 3} (h : CtlTurn s nd) (hb : nd.inp.ctlRxBit = [b])
    (hx : ctlCond nd.ctl b = .ok x) :
    fetch s = .ok (.ctl (BitVec.ofBool false ++ nd.ctl.state ++ 0b01#2 ++ BitVec.ofBool b ++ x)) := by
  obtain ⟨hcall, hstage, hhalt, hn, henq⟩ := h
  have hword : ctlSelector s.seq.halted nd =
      .ok (BitVec.ofBool false ++ nd.ctl.state ++ 0b01#2 ++ BitVec.ofBool b ++ x) := by
    simp [ctlSelector, hhalt, hb, theBit, hx, countField, bitField]
  simp [fetch, hcall, hstage, nodeSelector_of_node s nd _ hn, controllerSelector, henq, hword]

/-- In Receive the class of the bit selects its row. -/
theorem selected_of_receive {s : State} {nd : Node} {b : Bit} (h : CtlTurn s nd) (hs : nd.ctl.state = CtlState.receive)
    (hb : nd.inp.ctlRxBit = [b]) : selected s = some ((nd.ctl.rx.rxClass b).row b) := by
  have hfetch := fetch_of_ctlTurn h hb (ctlCond_of_receive nd.ctl b hs)
  rw [hs, ← RxClass.encode_row] at hfetch
  simp only [selected, hfetch]
  exact decode_encode _ (RxClass.wellFormed_row _ b)

/-- Settles O30: each clause is the condition of its class, and the class selects its row. -/
theorem receiveClassSelectsTheReceiveRow : Obligations.ReceiveClassSelectsTheReceiveRow := by
  refine ⟨fun s nd b h hs hb => ?_, fun a b => (a.rxClass b).code_ne_reserved⟩
  intro a
  have hrow (k : RxClass) (hk : a.classCondition b k) : selected s = some (k.row b) :=
    Assembler.rxClass_of_classCondition hk ▸ selected_of_receive h hs hb
  refine ⟨hrow .skip, fun hskip hregion => ?_, fun hskip hhdr hfull => ?_⟩
  · have hin : a.inStuffed = true := a.inStuffed_iff.mpr (or_assoc.mp (.inl hregion))
    exact ⟨fun hlen => hrow .data ⟨hin, hskip, hlen⟩, fun hlen hdlc => hrow .hdr ⟨hskip, hlen, hdlc⟩,
      fun hlen hdlc => hrow .hdrBad ⟨hskip, hlen, hdlc⟩⟩
  · have hin : a.inStuffed = false := a.inStuffed_eq_false_iff.mpr ⟨hhdr, hfull, hskip⟩
    refine ⟨fun ht => hrow .trail ⟨hin, ht⟩, fun ht hok hbit => hrow .done ⟨hin, ht, hok, hbit⟩,
      fun ht hbad => hrow .badEof ⟨hin, ht, ?_⟩⟩
    rintro ⟨hok, rfl⟩
    simp [hok] at hbad

end Sys2Proof.Machine
end

section
/-! The layout of the data region (30_encoding R71, R72, R76; 40_codec R101). -/
namespace Sys2Proof.Machine

theorem length_data_of_frameValid (f : Frame) (h : frameValid f = true) : f.data.length = f.dlc := by
  simp only [frameValid, Bool.and_eq_true, decide_eq_true_eq] at h
  obtain ⟨⟨-, hlen⟩, -⟩ := h
  exact hlen

theorem getElem?_ubits (n v j : Nat) (h : j < n) : (ubits n v)[j]? = some (v.testBit (n - 1 - j)) := by
  induction n generalizing j with
  | zero => omega
  | succ n ih =>
    cases j with
    | zero => simp [ubits]
    | succ j =>
      rw [ubits, List.getElem?_cons_succ, ih j (by omega)]
      congr 2
      omega

/-- Bit j of the i-th of equally long fields stands at place i times their length and j. -/
theorem getElem?_flatMap_ubits (n : Nat) (l : List Nat) (i x j : Nat) (hx : l[i]? = some x) (hj : j < n) :
    (l.flatMap (ubits n))[n * i + j]? = some (x.testBit (n - 1 - j)) := by
  induction l generalizing i with
  | nil => simp at hx
  | cons y ys ih =>
    rw [List.flatMap_cons]
    cases i with
    | zero =>
      obtain rfl : y = x := by simpa using hx
      rw [Nat.mul_zero, Nat.zero_add, List.getElem?_append_left (by simpa using hj)]
      exact getElem?_ubits n y j hj
    | succ i =>
      rw [Nat.mul_succ, List.getElem?_append_right (by rw [length_ubits]; omega), length_ubits]
      convert ih i (by simpa using hx) using 2
      omega

/-- The fields of a valid frame's data region, with every data byte in it. -/
theorem dataRegion_of_valid (f : Frame) (h : frameValid f = true) :
    dataRegion f = dominant :: (ubits 11 f.id ++ (ubits 4 f.dlc ++ f.data.flatMap (ubits 8))) := by
  rw [dataRegion, List.take_of_length_le (length_data_of_frameValid f h).le]
  simp [idBits, dlcBits]

/-- Settles O51: each place lies in one field, which holds its number most significant bit first. -/
theorem dataRegionHoldsTheFieldsInOrder : Obligations.DataRegionHoldsTheFieldsInOrder := by
  intro f h
  refine ⟨?_, ?_, fun j hj => ?_, fun j hj => ?_, fun i x j hx hj => ?_⟩
  · rw [length_dataRegion, length_data_of_frameValid f h, min_self]
  · rw [dataRegion_of_valid f h, List.getElem?_cons_zero]
  · rw [dataRegion_of_valid f h, Nat.add_comm, List.getElem?_cons_succ, List.getElem?_append_left (by simpa using hj)]
    exact getElem?_ubits 11 f.id j hj
  · rw [dataRegion_of_valid f h, show 12 + j = 11 + j + 1 by omega, List.getElem?_cons_succ,
      List.getElem?_append_right (by simp), List.getElem?_append_left (by simp; omega)]
    simpa using getElem?_ubits 4 f.dlc j hj
  · rw [dataRegion_of_valid f h, show 16 + 8 * i + j = 11 + (4 + (8 * i + j)) + 1 by omega, List.getElem?_cons_succ,
      List.getElem?_append_right (by simp), List.getElem?_append_right (by simp)]
    simpa using getElem?_flatMap_ubits 8 f.data i x j hx hj

end Sys2Proof.Machine
end

section
/-! Stuffing and destuffing (40_codec R102, R103): the two loops keep the same run, so destuffing follows stuffing bit by bit (R109).
The run at the end of a part is where the stuffing of the rest goes on. -/
namespace Sys2Proof.Machine

/-! ## The run that both loops keep -/

/-- The run length after a data bit: the run grows, or a new run of 1 starts (R102, R103). -/
def runLenAfter (rv : Bit) (rl : Nat) (b : Bit) : Nat := if 0 < rl ∧ b = rv then rl + 1 else 1

theorem runLenAfter_pos (rv : Bit) (rl : Nat) (b : Bit) : 1 ≤ runLenAfter rv rl b := by
  unfold runLenAfter
  split <;> omega

theorem runLenAfter_same (b : Bit) (rl : Nat) (h : 0 < rl) : runLenAfter b rl b = rl + 1 := if_pos ⟨h, rfl⟩

theorem runLenAfter_of_ne {rv b : Bit} (rl : Nat) (h : b ≠ rv) : runLenAfter rv rl b = 1 := if_neg fun hb => h hb.2

/-- Stuffing a data bit that completes a run of k: its complement follows and starts the next run. -/
theorem stuffFrom_of_le {k : Nat} {rv : Bit} {rl : Nat} {b : Bit} (h : k ≤ runLenAfter rv rl b) (bs : List Bit) :
    stuffFrom k rv rl (b :: bs) = b :: (!b) :: stuffFrom k (!b) 1 bs := if_pos h

theorem stuffFrom_of_lt {k : Nat} {rv : Bit} {rl : Nat} {b : Bit} (h : runLenAfter rv rl b < k) (bs : List Bit) :
    stuffFrom k rv rl (b :: bs) = b :: stuffFrom k b (runLenAfter rv rl b) bs := if_neg (not_le.mpr h)

theorem destuffFrom_data (k : Nat) (rv : Bit) (rl : Nat) (b : Bit) (bs : List Bit) :
    destuffFrom k rv rl false (b :: bs) =
      b :: destuffFrom k b (runLenAfter rv rl b) (decide (k ≤ runLenAfter rv rl b)) bs := rfl

theorem destuffFrom_skip (k : Nat) (rv : Bit) (rl : Nat) (b : Bit) (bs : List Bit) :
    destuffFrom k rv rl true (b :: bs) = destuffFrom k b 1 false bs := rfl

/-- The run that the stuffing loop holds after the given data bits. -/
def runAtEnd (k : Nat) (rv : Bit) (rl : Nat) : List Bit → Bit × Nat
  | [] => (rv, rl)
  | b :: bs =>
    if k ≤ runLenAfter rv rl b then runAtEnd k (!b) 1 bs else runAtEnd k b (runLenAfter rv rl b) bs

theorem runAtEnd_of_le {k : Nat} {rv : Bit} {rl : Nat} {b : Bit} (h : k ≤ runLenAfter rv rl b) (bs : List Bit) :
    runAtEnd k rv rl (b :: bs) = runAtEnd k (!b) 1 bs := if_pos h

theorem runAtEnd_of_lt {k : Nat} {rv : Bit} {rl : Nat} {b : Bit} (h : runLenAfter rv rl b < k) (bs : List Bit) :
    runAtEnd k rv rl (b :: bs) = runAtEnd k b (runLenAfter rv rl b) bs := if_neg (not_le.mpr h)

/-- Stuffing goes on behind a first part from the run at its end. -/
theorem stuffFrom_append (k : Nat) (rv : Bit) (rl : Nat) (l r : List Bit) :
    stuffFrom k rv rl (l ++ r) =
      stuffFrom k rv rl l ++ stuffFrom k (runAtEnd k rv rl l).1 (runAtEnd k rv rl l).2 r := by
  induction l generalizing rv rl with
  | nil => rfl
  | cons b bs ih =>
    rcases le_or_gt k (runLenAfter rv rl b) with h | h
    · rw [List.cons_append, stuffFrom_of_le h, stuffFrom_of_le h, runAtEnd_of_le h, ih]
      rfl
    · rw [List.cons_append, stuffFrom_of_lt h, stuffFrom_of_lt h, runAtEnd_of_lt h, ih]
      rfl

/-- Destuffing a stuffed first part gives that part, and goes on behind it from the run at its end. -/
theorem destuffFrom_stuffFrom_append (k : Nat) (rv : Bit) (rl : Nat) (l r : List Bit) :
    destuffFrom k rv rl false (stuffFrom k rv rl l ++ r) =
      l ++ destuffFrom k (runAtEnd k rv rl l).1 (runAtEnd k rv rl l).2 false r := by
  induction l generalizing rv rl with
  | nil => rfl
  | cons b bs ih =>
    rcases le_or_gt k (runLenAfter rv rl b) with h | h
    · rw [stuffFrom_of_le h, runAtEnd_of_le h, List.cons_append, destuffFrom_data, decide_eq_true h, List.cons_append,
        destuffFrom_skip, ih]
      rfl
    · rw [stuffFrom_of_lt h, runAtEnd_of_lt h, List.cons_append, destuffFrom_data, decide_eq_false (not_le.mpr h), ih]
      rfl

theorem destuff_stuff (bits : List Bit) (k : Nat) : destuff (stuff bits k) k = bits := by
  simpa [destuff, stuff, destuffFrom] using destuffFrom_stuffFrom_append k dominant 0 bits []

/-- Settles O49: destuffing keeps the run that stuffing kept, and skips exactly the inserted bits. -/
theorem destuffUndoesStuff : Obligations.DestuffUndoesStuff := fun bits k _ => destuff_stuff bits k

end Sys2Proof.Machine
end

section
/-! Decoding a frame's data region and its raw stream (40_codec R106, R107, R110): the fields read back what the region holds, and the
receive assembler keeps the run of the stuffing loop, so it takes each data bit, skips each stuff bit and counts the trailer. -/
namespace Sys2Proof.Machine

/-! ## Numbers read back (R16) -/

theorem ubits_succ_last (n v : Nat) : ubits (n + 1) v = ubits n (v / 2) ++ [v.testBit 0] := by
  induction n with
  | zero => rfl
  | succ n ih => rw [ubits, ih, ubits, Nat.testBit_succ, List.cons_append]

theorem uval_append_singleton (s : List Bit) (b : Bit) : uval (s ++ [b]) = 2 * uval s + b.toNat := by
  simp [uval]

theorem uval_ubits (n v : Nat) : uval (ubits n v) = v % 2 ^ n := by
  induction n generalizing v with
  | zero => simp [ubits, uval, Nat.mod_one]
  | succ n ih =>
    rw [ubits_succ_last, uval_append_singleton, ih, Nat.pow_succ', Nat.mod_mul, Nat.toNat_testBit]
    simp [Nat.add_comm]

/-- A field read from its place in a region gives its number. -/
theorem uval_slice_ubits (l r : List Bit) (n v a b : Nat) (ha : l.length = a) (hb : a + n = b) (hv : v < 2 ^ n) :
    uval (slice (l ++ (ubits n v ++ r)) a b) = v := by
  subst ha hb
  rw [slice, List.drop_left, Nat.add_sub_cancel_left, List.take_left' (length_ubits n v), uval_ubits, Nat.mod_eq_of_lt hv]

/-! ## The fields of a data region (R76, R106) -/

theorem fields_le_of_frameValid (f : Frame) (h : frameValid f = true) : f.id ≤ maxId ∧ ∀ x ∈ f.data, x ≤ 255 := by
  simp only [frameValid, Bool.and_eq_true, decide_eq_true_eq, List.all_eq_true] at h
  obtain ⟨⟨⟨hid, -⟩, -⟩, hdata⟩ := h
  exact ⟨hid, hdata⟩

theorem length_dataRegion_of_valid (f : Frame) (h : frameValid f = true) : (dataRegion f).length = dataRegionLen f.dlc := by
  rw [length_dataRegion, length_data_of_frameValid f h, min_self, dataRegionLen, headerBits_eq]

theorem idOf_dataRegion (f : Frame) (h : frameValid f = true) : idOf (dataRegion f) = f.id := by
  have hid := (fields_le_of_frameValid f h).1
  rw [dataRegion_of_valid f h]
  exact uval_slice_ubits [dominant] _ 11 f.id 1 12 rfl rfl (lt_of_le_of_lt hid (by decide))

theorem dlcOf_dataRegion (f : Frame) (h : frameValid f = true) : dlcOf (dataRegion f) = f.dlc := by
  have hdlc := dlc_le_of_frameValid f h
  rw [dataRegion_of_valid f h, ← List.cons_append]
  exact uval_slice_ubits _ _ 4 f.dlc 12 16 (by simp) rfl (lt_of_le_of_lt hdlc (by decide))

theorem byteOf_dataRegion (f : Frame) (h : frameValid f = true) (j : Nat) (hj : j < f.data.length) :
    byteOf (dataRegion f) j = f.data[j] := by
  have hx := (fields_le_of_frameValid f h).2 f.data[j] (List.getElem_mem hj)
  have hsplit : f.data.flatMap (ubits 8) =
      (f.data.take j).flatMap (ubits 8) ++ (ubits 8 f.data[j] ++ (f.data.drop (j + 1)).flatMap (ubits 8)) := by
    rw [← List.flatMap_cons, ← List.flatMap_append, ← List.drop_eq_getElem_cons hj, List.take_append_drop]
  rw [dataRegion_of_valid f h, hsplit, ← List.append_assoc, ← List.append_assoc, ← List.cons_append]
  refine uval_slice_ubits _ _ 8 f.data[j] _ _ ?_ (by omega) (by omega)
  simp [List.length_flatMap, Nat.min_eq_left hj.le]
  omega

theorem bitsToFrame_dataRegion (f : Frame) (h : frameValid f = true) : bitsToFrame (dataRegion f) = .ok f := by
  have hlen := length_dataRegion_of_valid f h
  have hdlc := dlcOf_dataRegion f h
  have hbytes : (List.range f.dlc).map (byteOf (dataRegion f)) = f.data := by
    refine List.ext_getElem (by simp [length_data_of_frameValid f h]) fun j _ hj => ?_
    rw [List.getElem_map, List.getElem_range, byteOf_dataRegion f h j hj]
  rw [bitsToFrame, if_neg (by rw [hlen, dataRegionLen]; omega), hdlc,
    if_neg (not_lt.mpr (dlc_le_of_frameValid f h)), if_neg (not_lt.mpr hlen.ge), idOf_dataRegion f h, hbytes]

/-! ## The assembler along a data region (R107) -/

/-- A raw bit that neither ends the stream nor faults is fed to the assembler. -/
theorem decodeWireFrom_of_fed {a : Assembler} {b : Bit} (i : Nat) (bs : List Bit)
    (h : a.rxClass b = .data ∨ a.rxClass b = .skip ∨ a.rxClass b = .hdr ∨ a.rxClass b = .trail) :
    decodeWireFrom a i (b :: bs) = decodeWireFrom (a.feed b) (i + 1) bs := by
  rcases h with h | h | h | h <;> rw [decodeWireFrom, h]

/-- The assembler in the middle of a data region d: in order (R27), what it holds and what is left are d, and no trailer bit is in. -/
structure Assembler.Reading (a : Assembler) (d rest : List Bit) : Prop where
  wf : a.wf
  data : a.data ++ rest = d
  trl : a.trl = 0
  trlBad : a.trlBad = false

theorem Assembler.Reading.reset (d : List Bit) : Assembler.reset.Reading d d := ⟨Assembler.wf_reset, rfl, rfl, rfl⟩

/-- After the header the DLC register holds the region's DLC. -/
theorem Assembler.Reading.dlc_eq {a : Assembler} {d rest : List Bit} (h : a.Reading d rest) (hh : a.hdr = true) :
    a.dlc.toNat = dlcOf d := by
  obtain ⟨hge, -, hdlc, -⟩ := h.wf.2.1 hh
  rw [hdlc, ← h.data, dlcOf_append _ _ hge]

/-- In the middle of a region with a legal DLC a data bit is taken as one, or as the header's last. -/
theorem Assembler.Reading.rxClass_data_or_hdr {a : Assembler} {d rest : List Bit} {b : Bit} (h : a.Reading d (b :: rest))
    (hs : a.skip = false) (hdlc : dlcOf d ≤ maxDlc) (hlen : d.length = dataRegionLen (dlcOf d)) :
    a.rxClass b = .data ∨ a.rxClass b = .hdr := by
  have hd : (a.data ++ [b]) ++ rest = d := by simpa using h.data
  by_cases hhdr : a.data.length + 1 = headerBits
  · refine .inr (Assembler.rxClass_of_classCondition ⟨hs, hhdr, ?_⟩)
    rwa [← dlcOf_append_last _ _ hhdr, ← dlcOf_append _ rest (by simp [hhdr]), hd]
  · refine .inl (Assembler.rxClass_of_classCondition ⟨a.inStuffed_iff.mpr ?_, hs, hhdr⟩)
    cases hh : a.hdr with
    | false => exact .inl rfl
    | true =>
      refine .inr (.inl ?_)
      rw [h.dlc_eq hh, ← hlen, ← hd]
      simp only [List.length_append, List.length_singleton]
      omega

/-- A data bit goes into the region. -/
theorem Assembler.Reading.feed_data {a : Assembler} {d rest : List Bit} {b : Bit} (h : a.Reading d (b :: rest))
    (hc : a.rxClass b = .data ∨ a.rxClass b = .hdr) : (a.feed b).Reading d rest := by
  have hd : (a.data ++ [b]) ++ rest = d := by simpa using h.data
  rcases hc with hc | hc
  · have hfeed : a.feed b = a.takeData b := by rw [Assembler.feed, hc]
    rw [hfeed]
    exact ⟨Assembler.wf_takeData h.wf hc, by rwa [Assembler.takeData_data], by simp [h.trl], by simp [h.trlBad]⟩
  · have hfeed : a.feed b = a.takeHdr b := by rw [Assembler.feed, hc]
    rw [hfeed]
    exact ⟨Assembler.wf_takeHdr h.wf hc, by simpa [Assembler.takeHdr] using hd, by simp [Assembler.takeHdr, h.trl],
      by simp [Assembler.takeHdr, h.trlBad]⟩

/-- The run register counts as the stuffing loop does. -/
theorem Assembler.toNat_run_runLen (a : Assembler) (b : Bit) (h : a.runLen.toNat < stuffK) :
    (a.run b).runLen.toNat = runLenAfter a.runVal a.runLen.toNat b := by
  simp only [stuffK] at h
  rw [Assembler.run_runLen, runLenAfter, apply_ite BitVec.toNat, toNat_add_one a.runLen (by omega)]
  rfl

/-- After a data bit, of either class, the run is the stuffing loop's, and a stuff bit is due where the loop inserts one (R164). -/
theorem Assembler.feed_run_of_data (a : Assembler) {b : Bit} (hs : a.skip = false) (hlt : a.runLen.toNat < stuffK)
    (hc : a.rxClass b = .data ∨ a.rxClass b = .hdr) :
    (a.feed b).runVal = b ∧ (a.feed b).runLen.toNat = runLenAfter a.runVal a.runLen.toNat b ∧
      (a.feed b).skip = decide (stuffK ≤ runLenAfter a.runVal a.runLen.toNat b) := by
  have hfeed : (a.feed b).runVal = (a.run b).runVal ∧ (a.feed b).runLen = (a.run b).runLen ∧ (a.feed b).skip = (a.run b).skip := by
    rcases hc with hc | hc <;>
      simp [Assembler.feed, hc, Assembler.takeHdr, Assembler.takeData, Assembler.run_runLen, Assembler.run_skip]
  obtain ⟨hval, hrun, hskip⟩ := hfeed
  have hcount := a.toNat_run_runLen b hlt
  exact ⟨by rw [hval, Assembler.run_runVal], by rw [hrun, hcount], by rw [hskip, Assembler.run_skip, hs, hcount, Bool.false_or]⟩

/-- A stuff bit is discarded and starts a run of 1 (R168). -/
theorem Assembler.feed_of_skip {a : Assembler} {b : Bit} (hs : a.skip = true) :
    a.rxClass b = .skip ∧ a.feed b = a.takeSkip b := by
  have hc : a.rxClass b = .skip := Assembler.rxClass_of_classCondition hs
  exact ⟨hc, by rw [Assembler.feed, hc]⟩

theorem Assembler.Reading.takeSkip {a : Assembler} {d rest : List Bit} (b : Bit) (h : a.Reading d rest) (hs : a.skip = true) :
    (a.takeSkip b).Reading d rest :=
  ⟨Assembler.wf_takeSkip b h.wf hs, h.data, h.trl, h.trlBad⟩

/-- The stuffed bits of what is left of a region bring the assembler to the region's end. -/
theorem Assembler.Reading.decodeWireFrom_stuffFrom {d : List Bit} (hdlc : dlcOf d ≤ maxDlc) (hlen : d.length = dataRegionLen (dlcOf d))
    (tail rest : List Bit) (a : Assembler) (rv : Bit) (rl i : Nat) (h : a.Reading d rest) (hs : a.skip = false)
    (hval : a.runVal = rv) (hrun : a.runLen.toNat = rl) :
    ∃ a' : Assembler, a'.Reading d [] ∧ a'.skip = false ∧
      decodeWireFrom a i (stuffFrom stuffK rv rl rest ++ tail) =
        decodeWireFrom a' (i + (stuffFrom stuffK rv rl rest).length) tail := by
  induction rest generalizing a rv rl i with
  | nil => exact ⟨a, h, hs, rfl⟩
  | cons b bs ih =>
    subst hval hrun
    have hc := h.rxClass_data_or_hdr hs hdlc hlen
    have hstep (l : List Bit) := decodeWireFrom_of_fed i l (hc.imp_right fun h => .inr (.inl h))
    have hread := h.feed_data hc
    obtain ⟨hval, hrun, hskip⟩ := a.feed_run_of_data hs (Assembler.runLen_lt_of_not_skip h.wf hs) hc
    rcases le_or_gt stuffK (runLenAfter a.runVal a.runLen.toNat b) with hk | hk
    · rw [decide_eq_true hk] at hskip
      obtain ⟨hclass, hfeed⟩ := Assembler.feed_of_skip (b := !b) hskip
      obtain ⟨a', hread', hskip', heq⟩ := ih _ (!b) 1 (i + 1 + 1) (hread.takeSkip (!b) hskip) rfl rfl rfl
      refine ⟨a', hread', hskip', ?_⟩
      rw [stuffFrom_of_le hk, List.cons_append, List.cons_append, hstep, decodeWireFrom_of_fed _ _ (.inr (.inl hclass)), hfeed,
        heq, List.length_cons, List.length_cons]
      congr 1
      omega
    · rw [decide_eq_false (not_le.mpr hk)] at hskip
      obtain ⟨a', hread', hskip', heq⟩ := ih _ _ _ (i + 1) hread hskip hval hrun
      refine ⟨a', hread', hskip', ?_⟩
      rw [stuffFrom_of_lt hk, List.cons_append, hstep, heq, List.length_cons, Nat.add_assoc, Nat.add_comm 1]

/-! ## The trailer -/

/-- At its end the region is complete. -/
theorem Assembler.Reading.inStuffed_eq_false {a : Assembler} {d : List Bit} (h : a.Reading d []) (hs : a.skip = false)
    (hlen : d.length = dataRegionLen (dlcOf d)) : a.inStuffed = false := by
  have hd : a.data = d := by simpa using h.data
  have hh : a.hdr = true := by
    by_contra hh
    have hshort := (h.wf.1 (by simpa using hh)).1
    rw [hd, hlen, dataRegionLen] at hshort
    omega
  exact a.inStuffed_eq_false_iff.mpr ⟨hh, by rw [h.dlc_eq hh, hd, hlen], hs⟩

/-- The recessive bits left of the trailer end the stream with the region's frame. -/
theorem decodeWireFrom_trailer (n : Nat) (a : Assembler) (i : Nat) {f : Frame} (hin : a.inStuffed = false) (hbad : a.trlBad = false)
    (htrl : a.trl.toNat + (n + 1) = trailerLen) (hf : bitsToFrame a.data = .ok f) :
    decodeWireFrom a i (List.replicate (n + 1) recessive) = .ok (f, i + (n + 1)) := by
  rw [trailerLen_eq] at htrl
  induction n generalizing a i with
  | zero =>
    have hc : a.rxClass recessive = .done :=
      Assembler.rxClass_of_classCondition ⟨hin, by rw [trailerLen_eq]; omega, hbad, rfl⟩
    rw [List.replicate_one, decodeWireFrom, hc]
    simp only [hf]
  | succ n ih =>
    have hc : a.rxClass recessive = .trail := Assembler.rxClass_of_classCondition ⟨hin, by rw [trailerLen_eq]; omega⟩
    have hfeed : a.feed recessive = a.takeTrail recessive := by rw [Assembler.feed, hc]
    rw [List.replicate_succ, decodeWireFrom_of_fed _ _ (.inr (.inr (.inr hc))), hfeed,
      ih (a.takeTrail recessive) (i + 1) hin (by simp [Assembler.takeTrail_trlBad, hbad]) _ hf, Nat.add_assoc, Nat.add_comm 1]
    rw [Assembler.takeTrail_trl, toNat_add_one a.trl (by omega)]
    omega

theorem trailer_eq : trailer = List.replicate (9 + 1) recessive := rfl

theorem decodeWire_frameToBits (f : Frame) (h : frameValid f = true) :
    decodeWire (frameToBits f) = .ok (f, (frameToBits f).length) := by
  have hdlc := dlcOf_dataRegion f h
  have hlen := length_dataRegion_of_valid f h
  rw [← hdlc] at hlen
  obtain ⟨a, hread, hs, heq⟩ := (Assembler.Reading.reset (dataRegion f)).decodeWireFrom_stuffFrom
    (hdlc ▸ dlc_le_of_frameValid f h) hlen trailer _ _ dominant 0 0 rfl rfl rfl
  have hdata : a.data = dataRegion f := by simpa using hread.data
  refine heq.trans ?_
  rw [trailer_eq, decodeWireFrom_trailer 9 a _ (hread.inStuffed_eq_false hs hlen) hread.trlBad (by rw [hread.trl]; rfl)
    (hdata ▸ bitsToFrame_dataRegion f h), frameToBits, List.length_append, Nat.zero_add]
  rfl

/-- Settles O50: along the stuffed region the assembler's run is that of the stuffing loop, so the region arrives as it was, and
the trailer's tenth recessive bit ends the stream. -/
theorem decodeWireUndoesFrameToBits : Obligations.DecodeWireUndoesFrameToBits := fun f h =>
  ⟨decodeWire_frameToBits f h, by rw [destuff_stuff]; exact bitsToFrame_dataRegion f h⟩

end Sys2Proof.Machine
end

section
/-! Runs in stuffed sequences, the length of raw streams and the end of the arbitration field (40_codec R105, R108, R111). -/
namespace Sys2Proof.Machine

/-! ## Runs (R111) -/

/-- A run in a sequence that begins with m bits b and then changes lies in the beginning or behind it. -/
theorem replicate_infix_of_change {n m : Nat} {v b c : Bit} {t : List Bit} (hc : m = 0 ∨ c ≠ b)
    (h : List.replicate n v <:+: List.replicate m b ++ c :: t) : n ≤ m ∨ List.replicate n v <:+: c :: t := by
  induction m with
  | zero => exact .inr h
  | succ m ih =>
    have hc : c ≠ b := hc.resolve_left (by omega)
    rw [List.replicate_succ, List.cons_append, List.infix_cons_iff, ← List.cons_append, ← List.replicate_succ] at h
    rcases h with hpre | hin
    · left
      by_contra hlong
      have hlen : m + 1 < (List.replicate n v).length := by rw [List.length_replicate]; omega
      have hfirst : v = b := by simpa using hpre.getElem (Nat.zero_lt_of_lt hlen)
      have hchange : v = c := by simpa using hpre.getElem hlen
      exact hc (hchange.symm.trans hfirst)
    · exact (ih (.inr hc) hin).imp_left fun h => by omega

/-- No run is longer than k in what the stuffing loop gives, the run before it included. -/
theorem le_of_replicate_infix_stuffFrom {k n rl : Nat} {v rv : Bit} {bits : List Bit} (hk : 2 ≤ k) (hrl : rl < k)
    (h : List.replicate n v <:+: List.replicate rl rv ++ stuffFrom k rv rl bits) : n ≤ k := by
  induction bits generalizing rv rl with
  | nil =>
    have hlen := h.length_le
    simp only [stuffFrom, List.append_nil, List.length_replicate] at hlen
    omega
  | cons b bs ih =>
    by_cases hgrow : 0 < rl ∧ b = rv
    · obtain ⟨hpos, rfl⟩ := hgrow
      have hrun := runLenAfter_same b rl hpos
      have hjoin (l : List Bit) : List.replicate rl b ++ b :: l = List.replicate (rl + 1) b ++ l := by
        rw [List.replicate_succ', List.append_assoc, List.singleton_append]
      rcases le_or_gt k (rl + 1) with hfull | hfull
      · rw [stuffFrom_of_le (by rwa [hrun]), hjoin] at h
        rcases replicate_infix_of_change (.inr (by cases b <;> decide)) h with hle | hrest
        · omega
        · exact ih (rl := 1) hk hrest
      · rw [stuffFrom_of_lt (by rwa [hrun]), hrun, hjoin] at h
        exact ih hfull h
    · have hrun : runLenAfter rv rl b = 1 := if_neg hgrow
      have hchange : rl = 0 ∨ b ≠ rv := by
        rw [Nat.pos_iff_ne_zero] at hgrow
        tauto
      rw [stuffFrom_of_lt (by omega), hrun] at h
      rcases replicate_infix_of_change hchange h with hle | hrest
      · omega
      · exact ih (rl := 1) hk hrest

/-- Settles O52: a run of k is cut by the stuff bit, and any other run stays shorter. -/
theorem stuffedRunsAreBounded : Obligations.StuffedRunsAreBounded :=
  ⟨fun bits _ _ _ hk h => le_of_replicate_infix_stuffFrom (rv := dominant) (rl := 0) (bits := bits) hk (by omega) h, by decide⟩

/-! ## The length of a raw stream (R108) -/

/-- Stuffing with run length 5 adds a bit to four, where the run at the end counts as begun, and so does a change of the run's value
that no stuff bit made: stuff bits that follow each other without slack alternate. -/
theorem length_stuffFrom_add_le (rv : Bit) (rl : Nat) (bits : List Bit) (hpos : 0 < rl) (hrl : rl < stuffK) :
    4 * (stuffFrom stuffK rv rl bits).length + (runAtEnd stuffK rv rl bits).2 +
      (rv ^^ (runAtEnd stuffK rv rl bits).1 ^^ ((stuffFrom stuffK rv rl bits).length + bits.length).bodd).toNat ≤
      5 * bits.length + rl := by
  induction bits generalizing rv rl with
  | nil => simp [stuffFrom, runAtEnd]
  | cons b bs ih =>
    simp only [stuffK] at hrl ih ⊢
    by_cases hgrow : b = rv
    · subst hgrow
      have hrun := runLenAfter_same b rl hpos
      rcases le_or_gt 5 (rl + 1) with hfull | hfull
      · have hrest := ih (!b) 1 (by decide) (by decide)
        rw [stuffFrom_of_le (by rwa [hrun]), runAtEnd_of_le (by rwa [hrun])]
        simp only [List.length_cons, Nat.bodd_add, Nat.bodd_succ, Bool.not_xor, Bool.xor_not, Bool.not_not] at hrest ⊢
        omega
      · have hrest := ih b (rl + 1) (by omega) hfull
        rw [stuffFrom_of_lt (by rwa [hrun]), runAtEnd_of_lt (by rwa [hrun]), hrun]
        simp only [List.length_cons, Nat.bodd_add, Nat.bodd_succ, Bool.not_xor, Bool.xor_not, Bool.not_not] at hrest ⊢
        omega
    · have hrest := ih b 1 (by decide) (by decide)
      have hrun := runLenAfter_of_ne rl hgrow
      rw [stuffFrom_of_lt (by omega), runAtEnd_of_lt (by omega), hrun, List.length_cons, List.length_cons]
      have hflag := Bool.toNat_le (rv ^^ (runAtEnd 5 b 1 bs).1 ^^ ((stuffFrom 5 b 1 bs).length + 1 + (bs.length + 1)).bodd)
      omega

theorem runAtEnd_bounds (k : Nat) (rv : Bit) (rl : Nat) (bits : List Bit) (hk : 2 ≤ k) (hpos : 0 < rl) (hrl : rl < k) :
    0 < (runAtEnd k rv rl bits).2 ∧ (runAtEnd k rv rl bits).2 < k := by
  induction bits generalizing rv rl with
  | nil => exact ⟨hpos, hrl⟩
  | cons b bs ih =>
    rcases le_or_gt k (runLenAfter rv rl b) with h | h
    · rw [runAtEnd_of_le h]
      exact ih (!b) 1 Nat.one_pos hk
    · rw [runAtEnd_of_lt h]
      exact ih b _ (runLenAfter_pos rv rl b) h

/-- Stuffing goes through four bits for each stuff bit, and the last run holds at least one. -/
theorem length_stuffFrom_lt (rv : Bit) (rl : Nat) (bits : List Bit) (hpos : 0 < rl) (hrl : rl < stuffK) :
    4 * (stuffFrom stuffK rv rl bits).length < 5 * bits.length + rl := by
  have hle := length_stuffFrom_add_le rv rl bits hpos hrl
  have hend := (runAtEnd_bounds stuffK rv rl bits (by decide) hpos hrl).1
  omega

/-- The dominant SOF starts the first run (R71). -/
theorem stuff_dominant_cons (bits : List Bit) : stuff (dominant :: bits) stuffK = dominant :: stuffFrom stuffK dominant 1 bits := rfl

/-- Behind any run the DLC bits 1000 leave a dominant run of 3, or of 4 behind the stuff bit that their first bit brought. -/
theorem stuffFrom_1000 (rv : Bit) (rl : Nat) (bits : List Bit) (hpos : 0 < rl) (hrl : rl < stuffK) :
    stuffFrom stuffK rv rl (ubits 4 8 ++ bits) =
      if rv = recessive ∧ rl = 4 then [recessive, dominant, dominant, dominant, dominant] ++ stuffFrom stuffK dominant 4 bits
      else [recessive, dominant, dominant, dominant] ++ stuffFrom stuffK dominant 3 bits := by
  have hbits : ubits 4 8 ++ bits = recessive :: dominant :: dominant :: dominant :: bits := rfl
  rw [hbits]
  split
  · next h =>
    obtain ⟨rfl, rfl⟩ := h
    rfl
  · next h =>
    have hrun : runLenAfter rv rl recessive < stuffK := by
      simp only [stuffK] at hrl ⊢
      rw [runLenAfter]
      split
      · next hgrow => exact lt_of_le_of_ne (by omega) fun he => h ⟨hgrow.2.symm, by omega⟩
      · decide
    rw [stuffFrom_of_lt hrun]
    simp [stuffFrom, stuffK]

/-- The header and data of a DLC of 8 bring at most 18 stuff bits: 19 would have to follow each other with at most 3 bits of slack,
and the DLC bits 1000 either break a run or follow stuff bits that have not alternated. -/
theorem length_stuff_of_dlc_eight (id data : List Bit) (hid : id.length = 11) :
    4 * (stuff (dominant :: (id ++ (ubits 4 8 ++ data))) stuffK).length < 5 * data.length + 76 := by
  have hle := length_stuffFrom_add_le dominant 1 id (by decide) (by decide)
  obtain ⟨hpos, hlt⟩ := runAtEnd_bounds stuffK dominant 1 id (by decide) (by decide) (by decide)
  rw [hid] at hle
  rw [stuff_dominant_cons, stuffFrom_append, stuffFrom_1000 _ _ _ hpos hlt]
  split
  · next h =>
    have hdata := length_stuffFrom_lt dominant 4 data (by decide) (by decide)
    obtain ⟨hval, hrun⟩ := h
    rw [hval, hrun] at hle
    have hslack : (stuffFrom stuffK dominant 1 id).length ≠ 13 := fun he => by
      rw [he] at hle
      exact absurd hle (by decide)
    simp only [List.length_append, List.length_cons, List.length_nil]
    omega
  · have hdata := length_stuffFrom_lt dominant 3 data (by decide) (by decide)
    simp only [List.length_append, List.length_cons, List.length_nil]
    omega

theorem length_stuff_ge (bits : List Bit) (k : Nat) : bits.length ≤ (stuff bits k).length := length_stuffFrom_ge k dominant 0 bits

theorem stuffCount_add (f : Frame) (h : frameValid f = true) :
    stuffCount f + (16 + 8 * f.dlc) = (stuff (dataRegion f) stuffK).length := by
  have hregion := length_dataRegion_of_valid f h
  have hge := length_stuff_ge (dataRegion f) stuffK
  rw [hregion, dataRegionLen, headerBits_eq] at hge
  rw [stuffCount, dataRegionLen, headerBits_eq]
  omega

/-- A stuff bit for each four bits behind the SOF. -/
theorem stuffCount_le (f : Frame) (h : frameValid f = true) : stuffCount f ≤ 2 * f.dlc + 3 := by
  have hcount := stuffCount_add f h
  have hregion := length_dataRegion_of_valid f h
  rw [dataRegionLen, headerBits_eq] at hregion
  rw [dataRegion_of_valid f h] at hcount hregion
  have hstuff := length_stuffFrom_lt dominant 1 (ubits 11 f.id ++ (ubits 4 f.dlc ++ f.data.flatMap (ubits 8))) (by decide) (by decide)
  rw [stuff_dominant_cons, List.length_cons] at hcount
  rw [List.length_cons] at hregion
  omega

theorem stuffCount_le_of_dlc_eight (f : Frame) (h : frameValid f = true) (hdlc : f.dlc = 8) : stuffCount f ≤ 18 := by
  have hcount := stuffCount_add f h
  have hdata : (f.data.flatMap (ubits 8)).length = 64 := by
    simp [List.length_flatMap, length_data_of_frameValid f h, hdlc]
  have hstuff := length_stuff_of_dlc_eight (ubits 11 f.id) (f.data.flatMap (ubits 8)) (length_ubits 11 f.id)
  rw [dataRegion_of_valid f h, hdlc] at hcount
  omega

/-- Settles O53: a stuff bit needs four bits behind the SOF, and for DLC 8 the DLC bits cost the nineteenth. -/
theorem rawStreamLengthIsBounded : Obligations.RawStreamLengthIsBounded := by
  intro f h
  have hcount := stuffCount_add f h
  have hle := stuffCount_le f h
  have hmax := dlc_le_of_frameValid f h
  refine ⟨?_, hcount, ?_, fun _ => hle⟩
  · rw [frameToBits, List.length_append, trailer_eq, List.length_replicate, ← hcount]
    omega
  · rcases eq_or_lt_of_le hmax with hdlc | hdlc
    · exact stuffCount_le_of_dlc_eight f h hdlc
    · simp only [maxDlc] at hdlc
      omega

/-! ## The end of the arbitration field (R105) -/

/-- The raw index of a list's last bit: the bits before it and their stuff bits. -/
theorem arbEndFrom_append_singleton (raw : Nat) (rv : Bit) (rl : Nat) (l : List Bit) (b : Bit) :
    arbEndFrom raw rv rl (l ++ [b]) = raw + (stuffFrom stuffK rv rl l).length + 1 := by
  induction l generalizing raw rv rl with
  | nil => rfl
  | cons c cs ih =>
    obtain ⟨x, xs, hxs⟩ := List.exists_cons_of_ne_nil (List.append_ne_nil_of_right_ne_nil cs (List.cons_ne_nil b []))
    have hunfold : arbEndFrom raw rv rl (c :: (cs ++ [b])) =
        if stuffK ≤ runLenAfter rv rl c then arbEndFrom (raw + 2) (!c) 1 (cs ++ [b])
        else arbEndFrom (raw + 1) c (runLenAfter rv rl c) (cs ++ [b]) := by
      rw [hxs]
      rfl
    rw [List.cons_append, hunfold]
    rcases le_or_gt stuffK (runLenAfter rv rl c) with hk | hk
    · rw [if_pos hk, ih, stuffFrom_of_le hk, List.length_cons, List.length_cons]
      omega
    · rw [if_neg (not_le.mpr hk), ih, stuffFrom_of_lt hk, List.length_cons]
      omega

/-- The SOF and the identifier but for its last bit. -/
def arbBody (f : Frame) : List Bit := dominant :: ubits 10 (f.id / 2)

theorem length_arbBody (f : Frame) : (arbBody f).length = 11 := by simp [arbBody]

theorem dataRegion_eq_arbBody (f : Frame) :
    ∃ r, dataRegion f = arbBody f ++ f.id.testBit 0 :: r :=
  ⟨ubits dlcBits f.dlc ++ (f.data.take f.dlc).flatMap (ubits 8), by simp [dataRegion, arbBody, idBits, ubits_succ_last 10]⟩

theorem arbEnd_eq_arbEndFrom (f : Frame) : arbEnd f = arbEndFrom 0 dominant 0 (arbBody f ++ [f.id.testBit 0]) := by
  obtain ⟨r, hr⟩ := dataRegion_eq_arbBody f
  have htake : (dataRegion f).take (sofBits + idBits) = arbBody f ++ [f.id.testBit 0] := by
    rw [hr, List.append_cons, List.take_left' (by simp [length_arbBody, sofBits, idBits])]
  rw [arbEnd, htake]

theorem arbEnd_eq (f : Frame) : arbEnd f = (stuff (arbBody f) stuffK).length + 1 := by
  rw [arbEnd_eq_arbEndFrom, arbEndFrom_append_singleton, Nat.zero_add, stuff]

/-- A stuff bit never comes before the data bit. -/
theorem exists_stuffFrom_cons (k : Nat) (rv : Bit) (rl : Nat) (b : Bit) (bs : List Bit) :
    ∃ t, stuffFrom k rv rl (b :: bs) = b :: t := by
  rcases le_or_gt k (runLenAfter rv rl b) with hk | hk
  · exact ⟨_, stuffFrom_of_le hk bs⟩
  · exact ⟨_, stuffFrom_of_lt hk bs⟩

/-- The raw stream up to the identifier's last bit is the stuffed bits before it and the bit. -/
theorem frameToBits_eq_arbBody (f : Frame) : ∃ r, frameToBits f = stuff (arbBody f) stuffK ++ f.id.testBit 0 :: r := by
  obtain ⟨r, hr⟩ := dataRegion_eq_arbBody f
  obtain ⟨t, ht⟩ := exists_stuffFrom_cons stuffK (runAtEnd stuffK dominant 0 (arbBody f)).1
    (runAtEnd stuffK dominant 0 (arbBody f)).2 (f.id.testBit 0) r
  exact ⟨t ++ trailer, by rw [frameToBits, stuff, hr, stuffFrom_append, ht, List.append_assoc, List.cons_append, stuff]⟩

/-- Behind a stuffed sequence a data bit is read as one. -/
theorem destuff_stuff_append_singleton (l : List Bit) (b : Bit) (k : Nat) : destuff (stuff l k ++ [b]) k = l ++ [b] := by
  rw [destuff, stuff, destuffFrom_stuffFrom_append]
  rfl

/-- Settles O54: the stream begins with the stuffed bits before the identifier's last one, and then that bit. -/
theorem arbEndIsTheIdentifiersEnd : Obligations.ArbEndIsTheIdentifiersEnd := by
  intro f _
  have harb := arbEnd_eq f
  have hlen := length_arbBody f
  have hge := length_stuff_ge (arbBody f) stuffK
  have hle := length_stuffFrom_le dominant 0 (arbBody f) (by decide)
  have hpred : arbEnd f - 1 = (stuff (arbBody f) stuffK).length := by omega
  have hvalue (n : Nat) (hn : f.id = n) : arbEnd f = arbEndFrom 0 dominant 0 (dominant :: ubits 10 (n / 2) ++ [n.testBit 0]) := by
    rw [arbEnd_eq_arbEndFrom, arbBody, hn]
  obtain ⟨r, hr⟩ := frameToBits_eq_arbBody f
  refine ⟨by omega, ?_, ?_, ?_, ?_, fun h => (hvalue _ h).trans (by decide), fun h => (hvalue _ h).trans (by decide), ?_⟩
  · rw [← stuff] at hle
    omega
  · rw [harb, hr, List.append_cons, List.take_left' (by rw [List.length_append, List.length_singleton])]
    refine (congrArg List.length (destuff_stuff_append_singleton (arbBody f) _ stuffK)).trans ?_
    rw [List.length_append, hlen, List.length_singleton]
  · rw [hpred, hr, List.take_left]
    exact (congrArg List.length (destuff_stuff (arbBody f) stuffK)).trans hlen
  · rw [hpred, hr, List.getElem?_append_right le_rfl, Nat.sub_self, List.getElem?_cons_zero]
  · rintro (h | h) <;> exact (hvalue _ h).trans (by decide)

end Sys2Proof.Machine
end

section
/-! The transceiver (41_physical R120 to R127): the pair a bit drives and the bit a pair reads back, the rows that the ports of a turn
select, and what the rows of the two paths write. -/
namespace Sys2Proof

/-- The low line's level of a driven bit. -/
def Config.driveLow (c : Config) (b : Bit) : Voltage := if b then c.vRec else c.vDomLow

/-- The high line's level of a driven bit. -/
def Config.driveHigh (c : Config) (b : Bit) : Voltage := if b then c.vRec else c.vDomHigh

theorem Config.levels_of_legal (c : Config) (h : c.legal = true) :
    c.vMin ≤ c.vDomLow ∧ c.vDomLow < c.vRec ∧ c.vRec < c.vDomHigh ∧ c.vDomHigh ≤ c.vMax := by
  simp only [Config.legal, Bool.and_eq_true, decide_eq_true_eq] at h
  obtain ⟨⟨⟨⟨⟨-, hmin⟩, hlow⟩, hhigh⟩, hmax⟩, -⟩ := h
  exact ⟨hmin, hlow, hhigh, hmax⟩

end Sys2Proof

namespace Sys2Proof.Machine

/-! ## The selected operation -/

theorem selected_of_fetch {s : State} {sel : Selector} (h : fetch s = .ok sel) : selected s = decode sel := by
  simp [selected, h]

/-- A step runs the selected operation and passes the turn on by the operation's format. -/
theorem step_of_selected {s t : State} {i : Instr} (h : selected s = some i) (he : exec i s = .next t) :
    step s = .next (t.advance (encode i).format) := by
  cases hf : fetch s with
  | error e => simp [selected, hf] at h
  | ok sel =>
    have hd : decode sel = some i := (selected_of_fetch hf).symm.trans h
    rw [encode_of_decode sel i hd]
    exact step_of_parts hf hd he

theorem selected_of_writeTurn {s : State} {nd : Node} (h : WriteTurn s nd) : selected s = decode (.xw (xwSelector nd)) := by
  obtain ⟨hcall, hstage, hn⟩ := h
  exact selected_of_fetch (by simp [fetch, hcall, hstage, nodeSelector_of_node s nd _ hn])

theorem selected_of_readTurn {s : State} {nd : Node} (h : ReadTurn s nd) : selected s = decode (.xr (xrSelector s.cfg nd)) := by
  obtain ⟨hcall, hstage, hn⟩ := h
  exact selected_of_fetch (by simp [fetch, hcall, hstage, nodeSelector_of_node s nd _ hn])

/-! ## Writes and faults of a transceiver -/

theorem drivePair_of_node (s : State) (nd : Node) (lo hi : Voltage) (hn : s.node? = some nd) :
    drivePair s lo hi = .next (s.putNode { nd with out := nd.out.emitCan lo hi }) := withNode_of_node s nd _ hn

theorem deliverRxBit_of_node (s : State) (nd : Node) (b : Bit) (hn : s.node? = some nd) :
    deliverRxBit s b = .next (s.putNode { nd with out := nd.out.emitRxBit b }) := withNode_of_node s nd _ hn

/-- A transceiver's `raise` writes its record and drops its emits, and nothing else (R190). -/
theorem onlyNode_of_raiseXcv {s : State} {nd : Node} {k : FaultKind} {info : Nat} {r : Result} (hn : s.node? = some nd)
    (h : r = raiseXcv s nd k info) :
    ∃ t, r = .next t ∧ t.seq.ended = true ∧ OnlyNode s t { nd with
      xcvFault := nd.xcvFault.raise k info, out := { nd.out with canLow := [], canHigh := [], rxBit := [] } } :=
  ⟨_, h, rfl, onlyNode_putNode s nd _ hn⟩

/-! ## The pair of a bit (R81) -/

theorem xrSelector_of_pair (c : Config) (nd : Node) (lo hi : Voltage) (hlow : nd.inp.xcvBusLow = [lo])
    (hhigh : nd.inp.xcvBusHigh = [hi]) : xrSelector c nd = 0b01#2 ++ pairClassField c [lo] [hi] := by
  rw [xrSelector, hlow, hhigh]
  rfl

/-- The class K of the pair that a bit drives (R88). -/
theorem pairClassField_of_bit (c : Config) (h : c.legal = true) (b : Bit) :
    pairClassField c [c.driveLow b] [c.driveHigh b] = if b then 0b01#2 else 0b00#2 := by
  obtain ⟨-, hlow, -, -⟩ := c.levels_of_legal h
  cases b with
  | false => exact if_pos ⟨rfl, rfl⟩
  | true => exact (if_neg fun heq => hlow.ne' heq.1).trans (if_pos ⟨rfl, rfl⟩)

/-- The pair that a bit drives is read back as the bit. -/
theorem selected_of_pair_of_bit {s : State} {nd : Node} (h : ReadTurn s nd) (hc : s.cfg.legal = true) (b : Bit)
    (hlow : nd.inp.xcvBusLow = [s.cfg.driveLow b]) (hhigh : nd.inp.xcvBusHigh = [s.cfg.driveHigh b]) :
    selected s = some (if b then .xcvRd1 else .xcvRd0) := by
  rw [selected_of_readTurn h, xrSelector_of_pair _ _ _ _ hlow hhigh, pairClassField_of_bit _ hc]
  cases b <;> rfl

/-! ## The count fields (R88) -/

theorem countField_of_two_le {α : Type} (l : List α) (h : 2 ≤ l.length) : countField l = 0b10#2 := by
  match l with
  | [] | [_] => simp at h
  | _ :: _ :: _ => rfl

theorem pairCountField_of_many (lows highs : List Voltage) (hnone : ¬(lows = [] ∧ highs = []))
    (hone : ¬(lows.length = 1 ∧ highs.length = 1)) : pairCountField lows highs = 0b10#2 := by
  unfold pairCountField
  split
  · exact absurd ⟨rfl, rfl⟩ hnone
  · exact absurd ⟨rfl, rfl⟩ hone
  · rfl

theorem pairClassField_of_bad (c : Config) (lo hi : Voltage) (hdom : ¬(lo = c.vDomLow ∧ hi = c.vDomHigh))
    (hrec : ¬(lo = c.vRec ∧ hi = c.vRec)) : pairClassField c [lo] [hi] = 0b10#2 := (if_neg hdom).trans (if_neg hrec)

/-- Past a transceiver's turn comes the next transceiver's, or the wires' (log 1). -/
theorem nextAgent_of_xw (s : State) (h : s.seq.stage = .xw) :
    s.nextAgent.seq.stage = .xw ∧ s.nextAgent.seq.node = s.seq.node + 1 ∨ s.nextAgent.seq.stage = .wi := by
  simp only [State.nextAgent, h]
  split
  · exact .inl ⟨rfl, rfl⟩
  · exact .inr rfl

/-! ## The two paths -/

/-- Settles O37: the count and the bit of the port are the row's, and the row emits the bit's pair. -/
theorem transceiverDrivesThePairOfTheBit : Obligations.TransceiverDrivesThePairOfTheBit := by
  refine ⟨fun s nd hn => ⟨?_, ?_⟩, fun _ _ => rfl, fun s nd h => ?_, rfl, rfl⟩
  · exact ⟨_, drivePair_of_node s nd _ _ hn, rfl, onlyNode_putNode s nd _ hn⟩
  · exact ⟨_, drivePair_of_node s nd _ _ hn, rfl, onlyNode_putNode s nd _ hn⟩
  · rw [selected_of_writeTurn h, xwSelector]
    exact ⟨fun hb => hb ▸ rfl, fun hb => hb ▸ rfl, fun hb => ⟨false, hb ▸ rfl⟩⟩

/-- Settles O38: the delivered pair is that of a bit, and the row emits the bit. -/
theorem transceiverReadsTheBitOfThePair : Obligations.TransceiverReadsTheBitOfThePair := by
  refine ⟨fun s nd hn => ⟨?_, ?_⟩, fun _ _ => rfl, fun s nd h hc => ⟨?_, ?_, fun hlow hhigh => ?_⟩, rfl, rfl⟩
  · exact ⟨_, deliverRxBit_of_node s nd _ hn, rfl, onlyNode_putNode s nd _ hn⟩
  · exact ⟨_, deliverRxBit_of_node s nd _ hn, rfl, onlyNode_putNode s nd _ hn⟩
  · exact selected_of_pair_of_bit h hc dominant
  · exact selected_of_pair_of_bit h hc recessive
  · rw [selected_of_readTurn h, xrSelector, hlow, hhigh]
    exact ⟨_, decode_encode (.xcvRdnone _) rfl⟩

/-- Settles O39: the three rows raise, the count or the class selects them, and an ended turn has no read path. -/
theorem illFormedTransceiverInputFaults : Obligations.IllFormedTransceiverInputFaults := by
  refine ⟨fun s nd i k info hn hi => ?_, fun s nd h hlen => ?_, fun s nd h => ⟨fun hnone hone => ?_, ?_⟩⟩
  · rcases hi with ⟨⟨n, b, rfl⟩, rfl, rfl⟩ | ⟨⟨n, c, rfl⟩, rfl, rfl⟩ | ⟨⟨c, rfl⟩, rfl, rfl⟩ <;>
      exact onlyNode_of_raiseXcv hn (withNode_of_node s nd _ hn)
  · have hsel : selected s = some (.xcvWrmulti false (bitField nd.inp.xcvTxBit)) := by
      rw [selected_of_writeTurn h, xwSelector, countField_of_two_le _ hlen]
      exact decode_encode (.xcvWrmulti false _) rfl
    obtain ⟨-, hstage, hn⟩ := h
    have hexec := withNode_of_node s nd (fun nd => raiseXcv s nd .multipleInputs nd.inp.xcvTxBit.length) hn
    exact ⟨⟨_, _, hsel⟩, _, step_of_selected hsel hexec, nextAgent_of_xw (State.endTurn _) hstage⟩
  · rw [selected_of_readTurn h, xrSelector, pairCountField_of_many _ _ hnone hone]
    exact ⟨false, _, decode_encode (.xcvRdmulti false _) rfl⟩
  · intro lo hi hlow hhigh hdom hrec
    rw [selected_of_readTurn h, xrSelector_of_pair _ _ lo hi hlow hhigh, pairClassField_of_bad _ _ _ hdom hrec]
    exact ⟨false, rfl⟩

end Sys2Proof.Machine
end

section
/-! The wires (41_physical R128 to R135): the row that the conditions of R89 select, what each row writes, and the pair that resolution
emits. -/
namespace Sys2Proof.Machine

/-! ## Writes and faults of the wires -/

theorem onlyWires_set (s : State) (w : Wires) : OnlyWires s { s with wires := w } w :=
  ⟨rfl, rfl, rfl, rfl, rfl, rfl, rfl, rfl, rfl, rfl, rfl, rfl⟩

/-- A `raise` of the wires writes their record and drops the pair, and nothing else (R190). -/
theorem onlyWires_of_raiseWires {s : State} {k : FaultKind} {info : Nat} {r : Result} (h : r = raiseWires s k info) :
    ∃ t, r = .next t ∧ t.seq.ended = true ∧
      OnlyWires s t { s.wires with fault := s.wires.fault.raise k info, busLow := [], busHigh := [] } :=
  ⟨_, h, rfl, onlyWires_set s _⟩

/-! ## Injection (R128, R129) -/

theorem Wires.inject_of_due (w : Wires) (v : Voltage) (h : 0 < w.inj + w.wReq.length) :
    w.inject v = { w with lows := w.wLow ++ [v], highs := w.wHigh ++ [v], inj := w.inj + w.wReq.length - 1 } := if_pos h

theorem Wires.inject_of_none_due (w : Wires) (v : Voltage) (h : w.inj + w.wReq.length = 0) :
    w.inject v = { w with lows := w.wLow, highs := w.wHigh } := by
  have hinj : w.inj + w.wReq.length = w.inj := by omega
  exact (if_neg (by omega)).trans (by rw [hinj])

theorem selected_of_injection {s : State} (hcall : s.fn.call = none) (hstage : s.seq.stage = .wi) :
    selected s = some (if 0 < s.wires.inj + s.wires.wReq.length then .wiresInject else .wiresNoinj) := by
  rw [selected_of_fetch (sel := .wi (wiSelector s.wires)) (by simp [fetch, hcall, hstage]), wiSelector]
  split
  · next h => rw [decide_eq_true h]; rfl
  · next h => rw [decide_eq_false h]; rfl

/-- Settles O40: whether a sample is due is the word's one bit, and the branch of the injection. -/
theorem injectionAddsOneRecessiveSample : Obligations.InjectionAddsOneRecessiveSample := by
  refine ⟨fun s h => ?_, fun s h => ?_, fun s hcall hstage => ?_, rfl, rfl⟩
  · exact ⟨_, rfl, rfl, Wires.inject_of_due s.wires s.cfg.vRec h ▸ onlyWires_set s _⟩
  · exact ⟨_, rfl, rfl, Wires.inject_of_none_due s.wires s.cfg.vRec h ▸ onlyWires_set s _⟩
  · rw [selected_of_injection hcall hstage]
    exact ⟨fun h => by rw [if_pos h], fun h => by rw [if_neg (by omega)]⟩

/-! ## The row of the resolution (R89) -/

/-- The row of format WR that the conditions M, C, P, R and G select, first match first. -/
def resolutionRow : Bit → Bit → Bit → Bit → Bit → Instr
  | false, c, p, r, g => .wiresIdle (bit1 c ++ bit1 p ++ bit1 r ++ bit1 g)
  | true, true, p, r, g => .wiresNosamples (bit1 p ++ bit1 r ++ bit1 g)
  | true, false, true, r, g => .wiresMismatch (bit1 r ++ bit1 g)
  | true, false, false, true, g => .wiresLowhigh g
  | true, false, false, false, true => .wiresRange
  | true, false, false, false, false => .wiresResolve

theorem encode_resolutionRow (m c p r g : Bit) : encode (resolutionRow m c p r g) =
    .wr (BitVec.ofBool m ++ BitVec.ofBool c ++ BitVec.ofBool p ++ BitVec.ofBool r ++ BitVec.ofBool g) := by
  revert m c p r g
  decide

theorem wellFormed_resolutionRow (m c p r g : Bit) : WellFormed (resolutionRow m c p r g) = true :=
  wellFormed_of_not_ctl _ (by simp [encode_resolutionRow, Selector.format])

theorem selected_of_resolution {s : State} (hcall : s.fn.call = none) (hstage : s.seq.stage = .wr) :
    selected s = some (resolutionRow (!s.wires.lows.isEmpty || !s.wires.highs.isEmpty)
      (s.wires.lows.isEmpty != s.wires.highs.isEmpty) (s.wires.lows.length != s.wires.highs.length)
      (firstLowAbove s.wires.lows s.wires.highs).isSome (someOutOfRange s.cfg (s.wires.lows ++ s.wires.highs))) := by
  have hfetch : fetch s = .ok (.wr (wrSelector s.cfg s.wires)) := by simp [fetch, hcall, hstage]
  rw [wrSelector, ← encode_resolutionRow] at hfetch
  exact (selected_of_fetch hfetch).trans (decode_encode _ (wellFormed_resolutionRow ..))

/-- As many samples on both lines, and some: the row depends on the order of the pairs and the range alone. -/
theorem selected_of_paired_samples {s : State} (hcall : s.fn.call = none) (hstage : s.seq.stage = .wr) (hne : s.wires.lows ≠ [])
    (hlen : s.wires.lows.length = s.wires.highs.length) :
    selected s = some (resolutionRow true false false (firstLowAbove s.wires.lows s.wires.highs).isSome
      (someOutOfRange s.cfg (s.wires.lows ++ s.wires.highs))) := by
  have hne' : s.wires.highs ≠ [] := fun h => hne (List.eq_nil_of_length_eq_zero (by rw [hlen, h, List.length_nil]))
  rw [selected_of_resolution hcall hstage, hlen, List.isEmpty_eq_false_iff.mpr hne, List.isEmpty_eq_false_iff.mpr hne',
    bne_self_eq_false, bne_self_eq_false]
  rfl

/-- Settles O41: the three rows are told by which lines are empty and by the counts. -/
theorem idleAndUnevenLinesAreTold : Obligations.IdleAndUnevenLinesAreTold := by
  refine ⟨fun _ _ => rfl, fun s i k h => ?_, fun s hcall hstage => ?_, fun x => decode_encode (.wiresIdle x) rfl,
    fun x => decode_encode (.wiresNosamples x) rfl, fun x => decode_encode (.wiresMismatch x) rfl⟩
  · rcases h with ⟨⟨x, rfl⟩, rfl⟩ | ⟨⟨x, rfl⟩, rfl⟩ <;> exact onlyWires_of_raiseWires rfl
  · rw [selected_of_resolution hcall hstage]
    refine ⟨fun hl hh => ?_, ?_, fun hl hh hlen => ?_⟩
    · rw [hl, hh]
      exact ⟨_, rfl⟩
    · rintro (⟨hl, hh⟩ | ⟨hl, hh⟩)
      · rw [hl, List.isEmpty_eq_false_iff.mpr hh]
        exact ⟨_, rfl⟩
      · rw [hh, List.isEmpty_eq_false_iff.mpr hl]
        exact ⟨_, rfl⟩
    · rw [List.isEmpty_eq_false_iff.mpr hl, List.isEmpty_eq_false_iff.mpr hh, bne_iff_ne.mpr hlen]
      exact ⟨_, rfl⟩

/-! ## The conditions R and G (R133, R134) -/

/-- No low lies above its paired high. -/
abbrev PairsInOrder (lows highs : List Voltage) : Prop :=
  ∀ (i : Nat) (lo hi : Voltage), lows[i]? = some lo → highs[i]? = some hi → lo ≤ hi

theorem firstLowAbove_eq_none {lows highs : List Voltage} (h : PairsInOrder lows highs) : firstLowAbove lows highs = none := by
  refine List.findIdx?_eq_none_iff.mpr fun p hp => ?_
  obtain ⟨i, hi⟩ := List.mem_iff_getElem?.mp hp
  obtain ⟨hlo, hhi⟩ := List.getElem?_zip_eq_some.mp hi
  exact decide_eq_false (not_lt.mpr (h i _ _ hlo hhi))

theorem firstLowAbove_eq_some {lows highs : List Voltage} {i : Nat} {lo hi : Voltage} (hlo : lows[i]? = some lo)
    (hhi : highs[i]? = some hi) (hlt : hi < lo)
    (hleast : ∀ j lo' hi', j < i → lows[j]? = some lo' → highs[j]? = some hi' → lo' ≤ hi') :
    firstLowAbove lows highs = some i := by
  obtain ⟨hzip, heq⟩ := List.getElem?_eq_some_iff.mp (List.getElem?_zip_eq_some (z := (lo, hi)) |>.mpr ⟨hlo, hhi⟩)
  refine List.findIdx?_eq_some_iff_getElem.mpr ⟨hzip, by rw [heq]; exact decide_eq_true hlt, fun j hj => ?_⟩
  obtain ⟨hlo', hhi'⟩ := List.getElem?_zip_eq_some.mp (List.getElem?_eq_getElem (hj.trans hzip))
  simpa using hleast j _ _ hj hlo' hhi'

theorem someOutOfRange_iff (c : Config) (l : List Voltage) :
    someOutOfRange c l = true ↔ ∃ v ∈ l, v < c.vMin ∨ c.vMax < v := by
  simp [someOutOfRange]

theorem someOutOfRange_eq_false {c : Config} {l : List Voltage} (h : ∀ v ∈ l, c.vMin ≤ v ∧ v ≤ c.vMax) :
    someOutOfRange c l = false := by
  refine Bool.eq_false_iff.mpr fun hout => ?_
  obtain ⟨v, hv, hlt | hlt⟩ := (someOutOfRange_iff c l).mp hout
  · exact absurd (h v hv).1 (not_le.mpr hlt)
  · exact absurd (h v hv).2 (not_le.mpr hlt)

/-- Settles O42: the least index found is the one given, and no pair out of order lets the range decide. -/
theorem wrongPairsAndSamplesOutOfRangeFault : Obligations.WrongPairsAndSamplesOutOfRangeFault := by
  refine ⟨fun s i lo hi r hlo hhi hlt hleast => ?_, fun s v hv hout => ?_, fun x => decode_encode (.wiresLowhigh x) rfl, rfl⟩
  · have hfirst := firstLowAbove_eq_some hlo hhi hlt hleast
    refine ⟨onlyWires_of_raiseWires (by rw [exec, execWiresLowhigh, hfirst]), fun hcall hstage hlen => ?_⟩
    have hne : s.wires.lows ≠ [] := List.ne_nil_of_mem (List.mem_of_getElem? hlo)
    rw [selected_of_paired_samples hcall hstage hne hlen, hfirst]
    exact ⟨_, rfl⟩
  · have hrange := (someOutOfRange_iff s.cfg _).mpr ⟨v, hv, hout⟩
    refine ⟨onlyWires_of_raiseWires (if_pos hrange), fun hcall hstage hlen horder => ?_⟩
    have hne : s.wires.lows ≠ [] := by
      intro h
      have hh : s.wires.highs = [] := List.eq_nil_of_length_eq_zero (by rw [← hlen, h, List.length_nil])
      simp [h, hh] at hv
    rw [selected_of_paired_samples hcall hstage hne hlen, firstLowAbove_eq_none horder, hrange]
    rfl

/-! ## Resolution (R135) -/

theorem minSample_isLeast (v : Voltage) (l : List Voltage) : IsLeast {x | x ∈ v :: l} (minSample v l) := by
  obtain ⟨hmem, hle⟩ := List.min?_eq_some_iff.mp (List.min?_cons' (x := v) (xs := l))
  exact ⟨hmem, hle⟩

theorem maxSample_isGreatest (v : Voltage) (l : List Voltage) : IsGreatest {x | x ∈ v :: l} (maxSample v l) := by
  obtain ⟨hmem, hle⟩ := List.max?_eq_some_iff.mp (List.max?_cons' (x := v) (xs := l))
  exact ⟨hmem, hle⟩

/-- With samples on both lines RESOLVE emits the least low and the greatest high. -/
theorem exists_resolved_pair (s : State) (hl : s.wires.lows ≠ []) (hh : s.wires.highs ≠ []) :
    ∃ lo hi, exec .wiresResolve s = .next { s with wires := s.wires.emitPair lo hi } ∧
      IsLeast {v | v ∈ s.wires.lows} lo ∧ IsGreatest {v | v ∈ s.wires.highs} hi := by
  obtain ⟨l, ls, hl⟩ := List.exists_cons_of_ne_nil hl
  obtain ⟨h, hs, hh⟩ := List.exists_cons_of_ne_nil hh
  exact ⟨minSample l ls, maxSample h hs, by rw [exec, execWiresResolve, hl, hh], hl ▸ minSample_isLeast l ls,
    hh ▸ maxSample_isGreatest h hs⟩

theorem selected_wiresResolve {s : State} (hcall : s.fn.call = none) (hstage : s.seq.stage = .wr) (hne : s.wires.lows ≠ [])
    (hlen : s.wires.lows.length = s.wires.highs.length) (horder : PairsInOrder s.wires.lows s.wires.highs)
    (hrange : ∀ v ∈ s.wires.lows ++ s.wires.highs, s.cfg.vMin ≤ v ∧ v ≤ s.cfg.vMax) : selected s = some .wiresResolve := by
  rw [selected_of_paired_samples hcall hstage hne hlen, firstLowAbove_eq_none horder, someOutOfRange_eq_false hrange]
  rfl

/-- Settles O43: the two folds give a least and a greatest sample, and every other row's condition fails. -/
theorem resolutionIsLeastLowAndGreatestHigh : Obligations.ResolutionIsLeastLowAndGreatestHigh := by
  refine ⟨fun s hl hh => ?_, fun _ => selected_wiresResolve⟩
  obtain ⟨lo, hi, hexec, ⟨hlo, hle⟩, hhi, hge⟩ := exists_resolved_pair s hl hh
  exact ⟨_, lo, hi, hexec, rfl, hlo, hle, hhi, hge, onlyWires_set s _⟩

end Sys2Proof.Machine
end

section
/-! The bus as a wired AND (41_physical R136 to R138): the samples of driven bits, in any order on each line, are in order and in range,
and resolve to the pair of the bits' AND. -/
namespace Sys2Proof.Machine

/-! ## The AND of a list of bits -/

theorem all_id_mem {bits : List Bit} (h : bits ≠ []) : bits.all id ∈ bits := by
  cases hand : bits.all id with
  | false => simpa using hand
  | true =>
    obtain ⟨b, hb⟩ := List.exists_mem_of_ne_nil bits h
    have hone : b = true := List.all_eq_true.mp hand b hb
    exact hone ▸ hb

theorem all_id_le {bits : List Bit} {b : Bit} (h : b ∈ bits) : bits.all id ≤ b := fun hand => List.all_eq_true.mp hand b h

/-! ## The levels that a bit drives (R81) -/

theorem Config.monotone_driveLow {c : Config} (hc : c.legal = true) : Monotone c.driveLow := by
  obtain ⟨-, hlow, -, -⟩ := c.levels_of_legal hc
  rintro (_ | _) (_ | _) h
  · exact le_rfl
  · exact hlow.le
  · exact absurd h (by decide)
  · exact le_rfl

theorem Config.antitone_driveHigh {c : Config} (hc : c.legal = true) : Antitone c.driveHigh := by
  obtain ⟨-, -, hhigh, -⟩ := c.levels_of_legal hc
  rintro (_ | _) (_ | _) h
  · exact le_rfl
  · exact hhigh.le
  · exact absurd h (by decide)
  · exact le_rfl

/-- The recessive level parts the lows from the highs. -/
theorem Config.driveLow_bounds {c : Config} (hc : c.legal = true) (b : Bit) : c.vMin ≤ c.driveLow b ∧ c.driveLow b ≤ c.vRec := by
  obtain ⟨hmin, hlow, -, -⟩ := c.levels_of_legal hc
  cases b with
  | false => exact ⟨hmin, hlow.le⟩
  | true => exact ⟨hmin.trans hlow.le, le_rfl⟩

theorem Config.driveHigh_bounds {c : Config} (hc : c.legal = true) (b : Bit) : c.vRec ≤ c.driveHigh b ∧ c.driveHigh b ≤ c.vMax := by
  obtain ⟨-, -, hhigh, hmax⟩ := c.levels_of_legal hc
  cases b with
  | false => exact ⟨hhigh.le, hmax⟩
  | true => exact ⟨le_rfl, hhigh.le.trans hmax⟩

/-! ## The samples of driven bits -/

/-- Each line holds the levels of the bits, in an order of its own (R138). -/
structure DrivenBy (c : Config) (bits : List Bit) (lows highs : List Voltage) : Prop where
  low : lows.Perm (bits.map c.driveLow)
  high : highs.Perm (bits.map c.driveHigh)

section
variable {c : Config} {bits : List Bit} {lows highs : List Voltage}

theorem DrivenBy.mem_low (h : DrivenBy c bits lows highs) (v : Voltage) : v ∈ lows ↔ ∃ b ∈ bits, c.driveLow b = v :=
  h.low.mem_iff.trans List.mem_map

theorem DrivenBy.mem_high (h : DrivenBy c bits lows highs) (v : Voltage) : v ∈ highs ↔ ∃ b ∈ bits, c.driveHigh b = v :=
  h.high.mem_iff.trans List.mem_map

theorem DrivenBy.length_low (h : DrivenBy c bits lows highs) : lows.length = bits.length := by simpa using h.low.length_eq

theorem DrivenBy.length_high (h : DrivenBy c bits lows highs) : highs.length = bits.length := by simpa using h.high.length_eq

theorem DrivenBy.low_bounds (h : DrivenBy c bits lows highs) (hc : c.legal = true) {v : Voltage} (hv : v ∈ lows) :
    c.vMin ≤ v ∧ v ≤ c.vRec := by
  obtain ⟨b, -, rfl⟩ := (h.mem_low v).mp hv
  exact Config.driveLow_bounds hc b

theorem DrivenBy.high_bounds (h : DrivenBy c bits lows highs) (hc : c.legal = true) {v : Voltage} (hv : v ∈ highs) :
    c.vRec ≤ v ∧ v ≤ c.vMax := by
  obtain ⟨b, -, rfl⟩ := (h.mem_high v).mp hv
  exact Config.driveHigh_bounds hc b

theorem DrivenBy.pairsInOrder (h : DrivenBy c bits lows highs) (hc : c.legal = true) : PairsInOrder lows highs :=
  fun _ _ _ hlo hhi => (h.low_bounds hc (List.mem_of_getElem? hlo)).2.trans (h.high_bounds hc (List.mem_of_getElem? hhi)).1

theorem DrivenBy.inRange (h : DrivenBy c bits lows highs) (hc : c.legal = true) :
    ∀ v ∈ lows ++ highs, c.vMin ≤ v ∧ v ≤ c.vMax := by
  obtain ⟨hmin, hlow, hhigh, hmax⟩ := c.levels_of_legal hc
  intro v hv
  rcases List.mem_append.mp hv with hv | hv
  · exact (h.low_bounds hc hv).imp_right fun hle => hle.trans (hhigh.le.trans hmax)
  · exact (h.high_bounds hc hv).imp_left (hmin.trans hlow.le).trans

theorem DrivenBy.isLeast_low (h : DrivenBy c bits lows highs) (hc : c.legal = true) (hne : bits ≠ []) :
    IsLeast {v | v ∈ lows} (c.driveLow (bits.all id)) := by
  refine ⟨(h.mem_low _).mpr ⟨_, all_id_mem hne, rfl⟩, fun v hv => ?_⟩
  obtain ⟨b, hb, rfl⟩ := (h.mem_low v).mp hv
  exact Config.monotone_driveLow hc (all_id_le hb)

theorem DrivenBy.isGreatest_high (h : DrivenBy c bits lows highs) (hc : c.legal = true) (hne : bits ≠ []) :
    IsGreatest {v | v ∈ highs} (c.driveHigh (bits.all id)) := by
  refine ⟨(h.mem_high _).mpr ⟨_, all_id_mem hne, rfl⟩, fun v hv => ?_⟩
  obtain ⟨b, hb, rfl⟩ := (h.mem_high v).mp hv
  exact Config.antitone_driveHigh hc (all_id_le hb)

end

/-! ## The two operations of the wires -/

theorem Wires.inject_busLow (w : Wires) (v : Voltage) : (w.inject v).busLow = w.busLow := by
  unfold Wires.inject; dsimp only; split <;> rfl

theorem Wires.inject_busHigh (w : Wires) (v : Voltage) : (w.inject v).busHigh = w.busHigh := by
  unfold Wires.inject; dsimp only; split <;> rfl

/-- An injected sample is that of one more recessive bit, which leaves the AND as it is. -/
theorem DrivenBy.inject {c : Config} {bits : List Bit} {w : Wires} (h : DrivenBy c bits w.wLow w.wHigh) :
    ∃ bits', DrivenBy c bits' (w.inject c.vRec).lows (w.inject c.vRec).highs ∧ bits'.all id = bits.all id ∧
      (bits' = [] ↔ bits = [] ∧ w.inj + w.wReq.length = 0) := by
  rcases Nat.eq_zero_or_pos (w.inj + w.wReq.length) with hdue | hdue
  · rw [Wires.inject_of_none_due w _ hdue]
    exact ⟨bits, h, rfl, (and_iff_left hdue).symm⟩
  · rw [Wires.inject_of_due w _ hdue]
    refine ⟨bits ++ [recessive], ⟨?_, ?_⟩, by simp, ?_⟩
    · rw [List.map_append]
      exact h.low.append_right _
    · rw [List.map_append]
      exact h.high.append_right _
    · exact iff_of_false (List.append_ne_nil_of_right_ne_nil bits (List.cons_ne_nil _ _)) fun hnone => hdue.ne' hnone.2

/-- The state between the two operations. -/
def State.injected (s : State) : State := { s with wires := s.wires.inject s.cfg.vRec, seq := { s.seq with stage := .wr } }

theorem step_of_injection {s : State} (hcall : s.fn.call = none) (hstage : s.seq.stage = .wi) : step s = .next s.injected := by
  have hsel := selected_of_injection hcall hstage
  split at hsel <;> exact step_of_selected hsel rfl

theorem wires_advance_wr {s : State} (h : s.seq.stage = .wr) : (s.advance .wr).wires = s.wires := by
  simp [State.advance, State.nextAgent, h]

/-- Without a sample the resolution leaves the wires as they are. -/
theorem step_of_no_sample {s : State} (hcall : s.fn.call = none) (hstage : s.seq.stage = .wr) (hl : s.wires.lows = [])
    (hh : s.wires.highs = []) : ∃ u, step s = .next u ∧ u.wires = s.wires := by
  have hsel := selected_of_resolution hcall hstage
  rw [hl, hh] at hsel
  exact ⟨_, step_of_selected hsel rfl, wires_advance_wr hstage⟩

/-- With the samples of driven bits the resolution emits the pair of their AND. -/
theorem DrivenBy.step_resolution {s : State} {bits : List Bit} (h : DrivenBy s.cfg bits s.wires.lows s.wires.highs)
    (hc : s.cfg.legal = true) (hne : bits ≠ []) (hcall : s.fn.call = none) (hstage : s.seq.stage = .wr) :
    ∃ u, step s = .next u ∧
      u.wires = s.wires.emitPair (s.cfg.driveLow (bits.all id)) (s.cfg.driveHigh (bits.all id)) := by
  have hl : s.wires.lows ≠ [] := List.ne_nil_of_mem (h.isLeast_low hc hne).1
  have hh : s.wires.highs ≠ [] := List.ne_nil_of_mem (h.isGreatest_high hc hne).1
  have hlen := h.length_low.trans h.length_high.symm
  have hsel := selected_wiresResolve hcall hstage hl hlen (h.pairsInOrder hc) (h.inRange hc)
  obtain ⟨lo, hi, hexec, hlo, hhi⟩ := exists_resolved_pair s hl hh
  rw [hlo.unique (h.isLeast_low hc hne), hhi.unique (h.isGreatest_high hc hne)] at hexec
  exact ⟨_, step_of_selected hsel hexec, wires_advance_wr hstage⟩

/-- Settles O44: the working lists are the samples of driven bits, injected ones among them; without any the bus stays idle, else the
resolved pair is that of the AND, which is read back. -/
theorem busIsTheAndOfTheDrivenBits : Obligations.BusIsTheAndOfTheDrivenBits := by
  intro s bits hc hcall hstage _ hbl hbh hlow hhigh
  obtain ⟨bits', hdriven, hand, hnil⟩ := DrivenBy.inject (c := s.cfg) (w := s.wires) ⟨hlow, hhigh⟩
  have hinj := step_of_injection hcall hstage
  rcases eq_or_ne bits' [] with rfl | hne
  · obtain ⟨hbits, hdue⟩ := hnil.mp rfl
    obtain ⟨u, hu, hw⟩ := step_of_no_sample (s := s.injected) hcall rfl hdriven.low.eq_nil hdriven.high.eq_nil
    refine ⟨_, u, hinj, hu, ?_, fun _ _ => ?_, fun h => absurd hdue (h.resolve_left (not_not.mpr hbits)).ne'⟩
    · exact hw ▸ Wires.inject_fault s.wires s.cfg.vRec
    · rw [hw]
      exact ⟨(Wires.inject_busLow ..).trans hbl, (Wires.inject_busHigh ..).trans hbh⟩
  · obtain ⟨u, hu, hw⟩ := hdriven.step_resolution (s := s.injected) hc hne hcall rfl
    have hul : u.wires.busLow = [s.cfg.driveLow (bits.all id)] := by
      rw [hw, hand, Wires.emitPair_busLow, State.injected, Wires.inject_busLow, hbl, List.nil_append]
    have huh : u.wires.busHigh = [s.cfg.driveHigh (bits.all id)] := by
      rw [hw, hand, Wires.emitPair_busHigh, State.injected, Wires.inject_busHigh, hbh, List.nil_append]
    refine ⟨_, u, hinj, hu, ?_, fun hbits hdue => absurd (hnil.mpr ⟨hbits, hdue⟩) hne, fun _ => ⟨fun h => ?_, fun h => ?_, ?_⟩⟩
    · exact hw ▸ Wires.inject_fault s.wires s.cfg.vRec
    · rw [hul, huh, h]
      exact ⟨rfl, rfl⟩
    · rw [hul, huh, h]
      exact ⟨rfl, rfl⟩
    · intro v nd hv hcfg hvl hvh
      rw [hul, ← hcfg] at hvl
      rw [huh, ← hcfg] at hvh
      exact selected_of_pair_of_bit hv (hcfg ▸ hc) _ hvl hvh

end Sys2Proof.Machine
end

section
/-! Two identifiers on the bus (42_controller R152, R174): where their bits first differ, the raw streams of the two frames differ for
the first time, since up to there they stuff the same bits. -/
namespace Sys2Proof.Machine

/-- Of two numbers the lower has the 0 at the first bit, most significant first, where they differ. -/
theorem exists_first_difference_ubits (n u v : Nat) (huv : u < v) (hv : v < 2 ^ n) :
    ∃ p s t, ubits n u = p ++ dominant :: s ∧ ubits n v = p ++ recessive :: t := by
  induction n generalizing u v with
  | zero => omega
  | succ n ih =>
    rcases Nat.lt_or_ge (u / 2) (v / 2) with hlt | hge
    · obtain ⟨p, s, t, hu, hv⟩ := ih (u / 2) (v / 2) hlt (by omega)
      exact ⟨p, s ++ [u.testBit 0], t ++ [v.testBit 0], by simp [ubits_succ_last, hu], by simp [ubits_succ_last, hv]⟩
    · have hhalf : u / 2 = v / 2 := by omega
      have hu0 : u.testBit 0 = dominant := by simp; omega
      have hv0 : v.testBit 0 = recessive := by simp; omega
      exact ⟨ubits n (u / 2), [], [], by rw [ubits_succ_last, hu0], by rw [ubits_succ_last, hv0, hhalf]⟩

/-- The identifier stands behind the SOF (R71). -/
theorem dataRegion_of_identifier {f : Frame} {p r : List Bit} {b : Bit} (hf : frameValid f = true)
    (h : ubits 11 f.id = p ++ b :: r) : ∃ t, dataRegion f = (dominant :: p) ++ b :: t :=
  ⟨r ++ (ubits 4 f.dlc ++ f.data.flatMap (ubits 8)), by simp [dataRegion_of_valid f hf, h]⟩

/-- Behind a first part of the data region the raw stream goes on from that part's stuffed bits with the next data bit. -/
theorem frameToBits_of_dataRegion {f : Frame} {l r : List Bit} {b : Bit} (h : dataRegion f = l ++ b :: r) :
    ∃ t, frameToBits f = stuff l stuffK ++ b :: t := by
  obtain ⟨t, ht⟩ := exists_stuffFrom_cons stuffK (runAtEnd stuffK dominant 0 l).1 (runAtEnd stuffK dominant 0 l).2 b r
  exact ⟨t ++ trailer, by rw [frameToBits, stuff, h, stuffFrom_append, ht, List.append_assoc, List.cons_append, stuff]⟩

/-- The raw bit behind a stuffed first part is the data bit that follows it, no stuff bit. -/
theorem destuff_take_frameToBits {f : Frame} {l r : List Bit} {b : Bit} (h : dataRegion f = l ++ b :: r) :
    destuff ((frameToBits f).take ((stuff l stuffK).length + 1)) stuffK = (dataRegion f).take (l.length + 1) := by
  obtain ⟨t, ht⟩ := frameToBits_of_dataRegion h
  rw [ht, h, List.append_cons _ b t, List.append_cons l b r, List.take_left' (by simp), List.take_left' (by simp),
    destuff_stuff_append_singleton]

/-- A first part of a list stuffs to no more bits than the list. -/
theorem length_stuff_le_of_prefix {l m : List Bit} (h : l <+: m) (k : Nat) : (stuff l k).length ≤ (stuff m k).length := by
  obtain ⟨r, rfl⟩ := h
  rw [stuff, stuff, stuffFrom_append, List.length_append]
  omega

/-- A raw bit that comes of an identifier bit lies in the arbitration field (R105). -/
theorem length_stuff_lt_arbEnd {f : Frame} {p r : List Bit} {b : Bit} (h : ubits 11 f.id = p ++ b :: r) :
    (stuff (dominant :: p) stuffK).length < arbEnd f := by
  have hlen : p.length ≤ 10 := by
    have := congrArg List.length h
    simp at this
    omega
  have hbody : p <+: ubits 10 (f.id / 2) := by
    refine List.prefix_of_prefix_length_le ⟨b :: r, h.symm⟩ ⟨[f.id.testBit 0], ?_⟩ (by simpa using hlen)
    exact (ubits_succ_last 10 f.id).symm
  rw [arbEnd_eq, arbBody]
  exact Nat.lt_succ_of_le (length_stuff_le_of_prefix (List.cons_prefix_cons.mpr ⟨rfl, hbody⟩) stuffK)

/-- Settles O55: up to the first identifier bit in which they differ the two frames stuff the same bits, the SOF and the identifier bits
before it; that bit follows in both streams. -/
theorem lowerIdentifierIsDominantAtTheFirstDifference : Obligations.LowerIdentifierIsDominantAtTheFirstDifference := by
  intro f g hf hg hid
  have hmax : g.id < 2 ^ 11 := lt_of_le_of_lt (fields_le_of_frameValid g hg).1 (by decide)
  obtain ⟨p, s, t, hfp, hgp⟩ := exists_first_difference_ubits 11 f.id g.id hid hmax
  obtain ⟨_, hfd⟩ := dataRegion_of_identifier hf hfp
  obtain ⟨_, hgd⟩ := dataRegion_of_identifier hg hgp
  obtain ⟨x, hx⟩ := frameToBits_of_dataRegion hfd
  obtain ⟨y, hy⟩ := frameToBits_of_dataRegion hgd
  have hlen := congrArg List.length hfp
  simp only [length_ubits, List.length_append, List.length_cons] at hlen
  refine ⟨(stuff (dominant :: p) stuffK).length, p.length + 1, length_stuff_lt_arbEnd hfp, length_stuff_lt_arbEnd hgp, ?_, ?_, ?_,
    by omega, by omega, destuff_take_frameToBits hfd, destuff_take_frameToBits hgd⟩
  · rw [hx, hy, List.take_left, List.take_left]
  · rw [hx, List.getElem?_append_right le_rfl, Nat.sub_self, List.getElem?_cons_zero]
  · rw [hy, List.getElem?_append_right le_rfl, Nat.sub_self, List.getElem?_cons_zero]

end Sys2Proof.Machine
end

section
/-! What a controller's operation writes, said once for each kind (42_controller R140, R157, 60_exceptions R190), and the word of the
controller whose turn it is (30_encoding R83 to R86). -/
namespace Sys2Proof.Machine

/-! ## What an operation writes -/

/-- An operation that ends in a write of its node changes that node only. -/
theorem onlyNode_of_putNode {s : State} {nd nd' : Node} {r : Result} (hn : s.node? = some nd) (h : r = .next (s.putNode nd')) :
    ∃ t, r = .next t ∧ t.seq.ended = s.seq.ended ∧ OnlyNode s t nd' :=
  ⟨_, h, rfl, onlyNode_putNode s nd nd' hn⟩

/-- A controller's `raise` writes its record and drops its emits, and the registers written before it stand (R190). -/
theorem onlyNode_of_raiseCtl {s : State} {nd : Node} {c : Controller} {k : FaultKind} {info : Nat} {r : Result}
    (hn : s.node? = some nd) (h : r = raiseCtl s { nd with ctl := c } k info) :
    ∃ t, r = .next t ∧ t.seq.ended = true ∧ OnlyNode s t { nd with
      ctl := { c with fault := c.fault.raise k info }, out := { nd.out with txBit := [], frameOut := [], report := [] } } :=
  ⟨_, h, rfl, onlyNode_putNode s nd _ hn⟩

/-! ## The word at a controller's turn -/

/-- The word of a well-formed operation selects it. -/
theorem selected_of_encode {s : State} {i : Instr} (h : fetch s = .ok (encode i)) (hi : WellFormed i = true) :
    selected s = some i := (selected_of_fetch h).trans (decode_encode i hi)

/-- With one bus bit the operation is the one whose word holds the controller's STATE, the bit and the condition on it. -/
theorem selected_of_busBit {s : State} {nd : Node} {b : Bit} {x : BitVec 3} (i : Instr) (h : CtlTurn s nd)
    (hb : nd.inp.ctlRxBit = [b]) (hx : ctlCond nd.ctl b = .ok x)
    (hw : encode i = .ctl (BitVec.ofBool false ++ nd.ctl.state ++ 0b01#2 ++ BitVec.ofBool b ++ x)) (hi : WellFormed i = true) :
    selected s = some i :=
  selected_of_encode (hw ▸ fetch_of_ctlTurn h hb hx) hi

/-- Whatever stands on the port, the word shows STATE and the port's count and bit (R83). -/
theorem exists_fetch_of_ctlTurn {s : State} {nd : Node} (h : CtlTurn s nd)
    (hx : ∀ b, nd.inp.ctlRxBit = [b] → ∃ x, ctlCond nd.ctl b = .ok x) :
    ∃ x : BitVec 3, fetch s = .ok (.ctl (BitVec.ofBool false ++ nd.ctl.state ++ countField nd.inp.ctlRxBit ++
      BitVec.ofBool (bitField nd.inp.ctlRxBit) ++ x)) := by
  obtain ⟨hcall, hstage, hhalt, hn, henq⟩ := h
  match hbits : nd.inp.ctlRxBit with
  | [b] =>
    obtain ⟨x, hx⟩ := hx b hbits
    exact ⟨x, fetch_of_ctlTurn ⟨hcall, hstage, hhalt, hn, henq⟩ hbits hx⟩
  | [] | _ :: _ :: _ =>
    exact ⟨0b000#3, by
      simp [fetch, hcall, hstage, nodeSelector_of_node s nd _ hn, controllerSelector, henq, ctlSelector, hhalt, hbits, theBit]⟩

/-! ## The condition bits (R86) -/

theorem ctlCond_of_idle (c : Controller) (b : Bit) (hs : c.state = CtlState.idle) :
    ctlCond c b = .ok (bits3 (condQ c) false false) := if_pos hs

theorem ctlCond_of_wait (c : Controller) (b : Bit) (hs : c.state = CtlState.wait) :
    ctlCond c b = .ok (bits3 (condC c) false false) := by
  rw [ctlCond, hs, if_neg (by decide), if_pos rfl]

/-- In Arbitration the bit is compared with the last one sent, and the cursor with the field's end. -/
theorem ctlCond_of_arbitration (c : Controller) (b l : Bit) (h : TxEntry) (q : List TxEntry) (hs : c.state = CtlState.arbitration)
    (hq : c.txq = h :: q) (hpos : 1 ≤ h.off.toNat) (hl : h.stream[h.off.toNat - 1]? = some l) :
    ctlCond c b = .ok (bits3 (b == l) (condF h) false) := by
  rw [ctlCond, hs, if_neg (by decide), if_neg (by decide), if_pos rfl, condArb, hq]
  simp only [lastSent_of_bit h l hpos hl]

theorem ctlCond_of_transmit (c : Controller) (b : Bit) (h : TxEntry) (q : List TxEntry) (hs : c.state = CtlState.transmit)
    (hq : c.txq = h :: q) : ctlCond c b = .ok (bits3 (condX h) false false) := by
  rw [ctlCond, hs, if_neg (by decide), if_neg (by decide), if_neg (by decide), if_pos rfl, condTx, hq]

/-- A reserved STATE code has no condition. -/
theorem ctlCond_of_reserved (c : Controller) (b : Bit) (hs : 4 < c.state.toNat) : ctlCond c b = .ok 0b000#3 := by
  have hne (st : BitVec 3) (hst : st.toNat ≤ 4) : c.state ≠ st := fun h => by rw [h] at hs; omega
  rw [ctlCond, if_neg (hne _ (by decide)), if_neg (hne _ (by decide)), if_neg (hne _ (by decide)), if_neg (hne _ (by decide)),
    if_neg (hne _ (by decide))]

end Sys2Proof.Machine
end

section
/-! The controller's common rows: reserved codes, no bus bit and several of them (42_controller R143 to R145), and the state report
that ends a controller's step (R141). -/
namespace Sys2Proof.Machine

/-- Settles O14: the three rows have one meaning, which raises; a reserved STATE code has no condition, so the word shows the code
with any input. -/
theorem reservedStateRaisesIllegalState : Obligations.ReservedStateRaisesIllegalState := by
  have hfetch {s : State} {nd : Node} (h : CtlTurn s nd) (hs : 4 < nd.ctl.state.toNat) :=
    exists_fetch_of_ctlTurn h fun b _ => ⟨_, ctlCond_of_reserved nd.ctl b hs⟩
  refine ⟨fun s nd i hn hi => ?_, fun s nd h hs => ?_, fun s nd h hs => ?_, fun b => decode_encode (.ctlBadStateRxc b) rfl⟩
  · rcases hi with ⟨n, b, c, rfl⟩ | ⟨l, n, b, c, rfl⟩ | ⟨b, rfl⟩ <;>
      exact onlyNode_of_raiseCtl hn (withNode_of_node s nd _ hn)
  · obtain ⟨x, hx⟩ := hfetch h (by rw [hs]; decide)
    rw [hs] at hx
    exact ⟨_, _, _, selected_of_encode (i := .ctlBadState5 _ _ _) hx rfl⟩
  · obtain ⟨x, hx⟩ := hfetch h (by rcases hs with hs | hs <;> rw [hs] <;> decide)
    rcases hs with hs | hs
    · rw [hs] at hx
      exact ⟨false, _, _, _, selected_of_encode (i := .ctlBadState67 false _ _ _) hx rfl⟩
    · rw [hs] at hx
      exact ⟨true, _, _, _, selected_of_encode (i := .ctlBadState67 true _ _ _) hx rfl⟩

theorem encode_ctlMulti (st : BitVec 3) (b : Bit) (x : BitVec 3) :
    encode (.ctlMulti st false b x) = .ctl (BitVec.ofBool false ++ st ++ 0b10#2 ++ BitVec.ofBool b ++ x) := by
  revert st b x; decide +kernel

theorem encode_ctlNobit (st : BitVec 3) (b : Bit) (x : BitVec 3) :
    encode (.ctlNobit st b x) = .ctl (BitVec.ofBool false ++ st ++ 0b00#2 ++ BitVec.ofBool b ++ x) := by
  revert st b x; decide +kernel

/-- Settles O15: the count of the port is the word's field N, and STATE is named. -/
theorem noBusBitAndSeveralBusBits : Obligations.NoBusBitAndSeveralBusBits := by
  refine ⟨fun s nd _ _ _ _ hn => onlyNode_of_raiseCtl hn (withNode_of_node s nd _ hn), fun s nd h hs hlen => ?_,
    fun _ _ _ _ => rfl, fun s nd h hs hnone => ?_⟩
  · obtain ⟨x, hx⟩ := exists_fetch_of_ctlTurn h fun b hb => by simp [hb] at hlen
    rw [countField_of_two_le _ hlen, ← encode_ctlMulti] at hx
    exact ⟨_, _, _, _, selected_of_encode hx (decide_eq_true hs)⟩
  · obtain ⟨x, hx⟩ := exists_fetch_of_ctlTurn h fun b hb => by simp [hnone] at hb
    rw [hnone] at hx
    exact ⟨_, _, _, selected_of_encode (hx.trans (congrArg _ (encode_ctlNobit _ _ x).symm)) (decide_eq_true hs)⟩

/-! ## The state report (R141) -/

theorem tookInput_iff (nd : Node) : tookInput nd = true ↔ nd.inp.ctlEnq ≠ [] ∨ nd.inp.ctlRxBit ≠ [] := by
  simp [tookInput]

theorem reportState_of_input {s : State} {nd : Node} (hn : s.node? = some nd) (hhalt : s.seq.halted = false)
    (hended : s.seq.ended = false) (hin : nd.inp.ctlEnq ≠ [] ∨ nd.inp.ctlRxBit ≠ []) :
    reportState s = s.putNode { nd with out := nd.out.emitReport s.seq.node nd.ctl.state } := by
  simp [reportState, hn, hhalt, hended, (tookInput_iff nd).mpr hin]

theorem reportState_of_silent {s : State} {nd : Node} (hn : s.node? = some nd)
    (h : s.seq.halted = true ∨ s.seq.ended = true ∨ (nd.inp.ctlEnq = [] ∧ nd.inp.ctlRxBit = [])) : reportState s = s := by
  rcases h with h | h | ⟨henq, hbit⟩
  · simp [reportState, hn, h]
  · simp [reportState, hn, h]
  · simp [reportState, hn, tookInput, henq, hbit]

/-- Settles O16: after a CTL word the turn passes on behind the state report, which has a case for a report and one for none. -/
theorem stateReportFollowsAConsumedInput : Obligations.StateReportFollowsAConsumedInput := by
  intro s t nd w i hfetch hd he hn
  refine ⟨step_of_parts hfetch hd he, fun hhalt hended hin => ?_, reportState_of_silent hn⟩
  rw [reportState_of_input hn hhalt hended hin]
  exact ⟨rfl, onlyNode_putNode t nd _ hn⟩

end Sys2Proof.Machine
end

section
/-! Idle and WaitForBusIdle (42_controller R146 to R151): what each row writes, and the row that the bit and the condition select. -/
namespace Sys2Proof.Machine

/-! ## The conditions Q and C (R86) -/

theorem condQ_of_ne_nil (c : Controller) (h : c.txq ≠ []) : condQ c = true := by
  simp [condQ, h]

theorem condQ_of_nil (c : Controller) (h : c.txq = []) : condQ c = false := by
  simp [condQ, h]

/-! ## Someone else's SOF (R165) -/

/-- Settles O17: a dominant bit in Idle has one row, whatever the condition Q. -/
theorem idleDominantBitStartsReception : Obligations.IdleDominantBitStartsReception := by
  refine ⟨fun s nd _ hn => onlyNode_of_putNode hn (withNode_of_node s nd _ hn), fun s nd h hs hb => ?_,
    fun c => decode_encode (.idleSof c) rfl⟩
  exact ⟨_, selected_of_busBit (.idleSof _) h hb (ctlCond_of_idle nd.ctl _ hs) (by rw [hs]; rfl) rfl⟩

/-- Settles O19: a dominant bit in WaitForBusIdle has one row, whatever the condition C. -/
theorem waitDominantBitStartsReception : Obligations.WaitDominantBitStartsReception := by
  refine ⟨fun s nd _ hn => onlyNode_of_putNode hn (withNode_of_node s nd _ hn), fun s nd h hs hb => ?_,
    fun c => decode_encode (.waitSof c) rfl⟩
  exact ⟨_, selected_of_busBit (.waitSof _) h hb (ctlCond_of_wait nd.ctl _ hs) (by rw [hs]; rfl) rfl⟩

/-! ## Recessive bits -/

/-- Passing the turn on behind a controller in a step that is not halted writes no node. -/
theorem nodes_nextAgent_of_ctl {s : State} (hstage : s.seq.stage = .ctl) (hhalt : s.seq.halted = false) :
    s.nextAgent.nodes = s.nodes := by
  simp only [State.nextAgent, hstage, hhalt]
  split <;> rfl

/-- Settles O18: the condition Q tells the two rows apart; IDLE.STAY leaves the state to the report, since a bit was taken. -/
theorem idleRecessiveBitWaitsOrStays : Obligations.IdleRecessiveBitWaitsOrStays := by
  refine ⟨fun s nd _ hn => onlyNode_of_putNode hn (withNode_of_node s nd _ hn), fun s nd h hs hb hq => ?_,
    fun c => decode_encode (.idleStart c) rfl, fun _ _ => rfl, fun s nd h hs hb hq => ?_, fun c => decode_encode (.idleStay c) rfl⟩
  · refine ⟨_, selected_of_busBit (.idleStart 0) h hb (ctlCond_of_idle nd.ctl _ hs) ?_ rfl⟩
    rw [hs, condQ_of_ne_nil _ hq]
    rfl
  · have hsel : selected s = some (.idleStay 0) := by
      refine selected_of_busBit _ h hb (ctlCond_of_idle nd.ctl _ hs) ?_ rfl
      rw [hs, condQ_of_nil _ hq]
      rfl
    obtain ⟨-, hstage, hhalt, hn, -⟩ := h
    refine ⟨⟨_, hsel⟩, fun hended => ⟨_, step_of_selected hsel rfl, ?_⟩⟩
    have hreport := reportState_of_input hn hhalt hended (.inr (by simp [hb]))
    show (reportState s).nextAgent.nodes[s.seq.node]? = _
    rw [hreport, nodes_nextAgent_of_ctl (by exact hstage) (by exact hhalt), hs]
    exact s.putNode_node? nd _ hn

/-- Settles O20: below the threshold the condition C is 0. -/
theorem waitCountsRecessiveBits : Obligations.WaitCountsRecessiveBits := by
  refine ⟨fun s nd _ hn => onlyNode_of_putNode hn (withNode_of_node s nd _ hn), fun s nd h hs hb hw => ?_, fun _ _ _ _ => rfl,
    fun c => decode_encode (.waitCount c) rfl⟩
  refine ⟨_, selected_of_busBit (.waitCount 0) h hb (ctlCond_of_wait nd.ctl _ hs) ?_ rfl⟩
  rw [hs, condC, waitThreshold_eq, decide_eq_false (not_lt.mpr hw)]
  rfl

/-- A well-formed entry's stream begins with the SOF (R71). -/
theorem TxEntry.getElem?_stream_zero {e : TxEntry} (h : e.wf) : e.stream[0]? = some dominant := by
  obtain ⟨-, hstream, -⟩ := h
  obtain ⟨t, ht⟩ := frameToBits_of_dataRegion (f := e.frame) (l := []) rfl
  rw [hstream, ht]
  rfl

/-- Settles O21: above the threshold the condition C is 1, and the bit written is that of a fresh cursor, the SOF. -/
theorem eleventhRecessiveBitStartsArbitration : Obligations.EleventhRecessiveBitStartsArbitration := by
  refine ⟨fun s nd h q b _ hn hq hb => ?_, fun h hwf hoff => ?_, fun s nd h hs hb hw => ?_,
    fun c => decode_encode (.waitGo c) rfl⟩
  · exact onlyNode_of_putNode hn ((withNode_of_node s nd _ hn).trans (txWrite_of_bit s _ h q b hq hb))
  · rw [hoff]
    exact TxEntry.getElem?_stream_zero hwf
  · refine ⟨_, selected_of_busBit (.waitGo 0) h hb (ctlCond_of_wait nd.ctl _ hs) ?_ rfl⟩
    rw [hs, condC, waitThreshold_eq, decide_eq_true hw]
    rfl

end Sys2Proof.Machine
end

section
/-! Arbitration and Transmit (42_controller R152 to R159): what each row writes, and the row that the bit, the last bit sent and the
cursor select. -/
namespace Sys2Proof.Machine

/-- Settles O22: an echo equal to the last bit sent, with the cursor inside the arbitration field (E = 1, F = 0). -/
theorem arbitrationMatchWritesTheNextBit : Obligations.ArbitrationMatchWritesTheNextBit := by
  refine ⟨fun s nd h q _ x _ hn hq hx => ?_, fun s nd h q b ht hs hq hb hpos hl hoff => ?_,
    fun b c => decode_encode (.arbMatch b c) rfl⟩
  · exact onlyNode_of_putNode hn ((withNode_of_node s nd _ hn).trans (txWrite_of_bit s _ h q x hq hx))
  · refine ⟨_, selected_of_busBit (.arbMatch b false) ht hb (ctlCond_of_arbitration nd.ctl b b h q hs hq hpos hl) ?_ rfl⟩
    rw [hs, beq_self_eq_true, condF, decide_eq_false hoff]
    cases b <;> rfl

/-- Settles O23: an echo equal to the last bit sent, with the cursor at the arbitration field's end (E = 1, F = 1), behind which the
stream goes on. -/
theorem arbitrationWonEntersTransmit : Obligations.ArbitrationWonEntersTransmit := by
  refine ⟨fun s nd h q _ x _ hn hq hx => ?_, fun s nd h q b ht hs hq hb hpos hl hoff => ?_, fun h hwf hoff => ?_,
    fun b c => decode_encode (.arbWon b c) rfl⟩
  · exact onlyNode_of_putNode hn ((withNode_of_node s nd _ hn).trans (txWrite_of_bit s _ h q x hq hx))
  · refine ⟨_, selected_of_busBit (.arbWon b false) ht hb (ctlCond_of_arbitration nd.ctl b b h q hs hq hpos hl) ?_ rfl⟩
    rw [hs, beq_self_eq_true, condF, decide_eq_true hoff]
    cases b <;> rfl
  · have hlt := TxEntry.arbEnd_lt_length hwf
    obtain ⟨-, -, hlen, -⟩ := hwf
    rwa [hoff, hlen]

/-- Settles O24: a dominant bit over a recessive one (B = 0, E = 0), whether or not the cursor is at the field's end. -/
theorem arbitrationLostBecomesReceiver : Obligations.ArbitrationLostBecomesReceiver := by
  refine ⟨fun s nd h q c hn hq hpos => ?_, fun s nd h q ht hs hq hb hpos hl => ?_, fun c => decode_encode (.arbLost c) rfl⟩
  · refine onlyNode_of_putNode hn ?_
    rw [exec, execArbLost, withNode_of_node s nd _ hn, withHead_of_cons nd h q _ hq, lastIndex_of_pos h hpos,
      Controller.setHeadOff_cons _ _ h q hq]
  · refine ⟨_, selected_of_busBit (.arbLost (BitVec.ofBool (condF h) ++ 0#1)) ht hb
      (ctlCond_of_arbitration nd.ctl dominant recessive h q hs hq hpos hl) ?_ rfl⟩
    rw [hs]
    cases condF h <;> rfl

/-- Settles O25: a recessive bit over a dominant one (B = 1, E = 0), whether or not the cursor is at the field's end. -/
theorem recessiveEchoOfDominantBitIsBusFault : Obligations.RecessiveEchoOfDominantBitIsBusFault := by
  refine ⟨fun s nd h q c hn hq hpos => ?_, fun s nd h q ht hs hq hb hpos hl => ?_, fun c => decode_encode (.arbBusfault c) rfl⟩
  · refine onlyNode_of_raiseCtl hn ?_
    rw [exec, execArbBusfault, withNode_of_node s nd _ hn, withHead_of_cons nd h q _ hq, lastIndex_of_pos h hpos]
  · refine ⟨_, selected_of_busBit (.arbBusfault (BitVec.ofBool (condF h) ++ 0#1)) ht hb
      (ctlCond_of_arbitration nd.ctl recessive dominant h q hs hq hpos hl) ?_ rfl⟩
    rw [hs]
    cases condF h <;> rfl

/-- Settles O26: any bit while bits remain (X = 0). -/
theorem transmitWritesTheNextBit : Obligations.TransmitWritesTheNextBit := by
  refine ⟨fun s nd h q _ x _ hn hq hx => ?_, fun s nd h q b ht hs hq hb hoff => ?_, fun b c => decode_encode (.txNext b c) rfl⟩
  · exact onlyNode_of_putNode hn ((withNode_of_node s nd _ hn).trans (txWrite_of_bit s _ h q x hq hx))
  · refine ⟨_, selected_of_busBit (.txNext b 0) ht hb (ctlCond_of_transmit nd.ctl b h q hs hq) ?_ rfl⟩
    rw [hs, condX, decide_eq_false hoff]
    cases b <;> rfl

/-- Settles O27: any bit with the cursor at the stream's end (X = 1). -/
theorem transmitDonePopsTheHead : Obligations.TransmitDonePopsTheHead := by
  refine ⟨fun s nd h q _ _ hn hq => ?_, fun s nd h q b ht hs hq hb hoff => ?_, fun b c => decode_encode (.txDone b c) rfl⟩
  · refine onlyNode_of_putNode hn ?_
    rw [exec, execTxDone, withNode_of_node s nd _ hn, withHead_of_cons nd h q _ hq, Controller.pop, hq, List.tail_cons]
  · refine ⟨_, selected_of_busBit (.txDone b 0) ht hb (ctlCond_of_transmit nd.ctl b h q hs hq) ?_ rfl⟩
    rw [hs, condX, decide_eq_true hoff]
    cases b <;> rfl

end Sys2Proof.Machine
end

section
/-! Receive (42_controller R163 to R175): what each row writes to the assembler and to FAULT, the frame that a complete reception
emits, and the assembler preloaded when arbitration is lost. -/
namespace Sys2Proof.Machine

/-! ## The assembler's registers after a bit -/

/-- RxRun, register by register; `r` is the run length after the bit (R164). -/
theorem Assembler.run_eq (a : Assembler) (b : Bit) (r : BitVec 3)
    (hr : r = if 0 < a.runLen.toNat ∧ b = a.runVal then a.runLen + 1 else 1) :
    a.run b = { a with runVal := b, runLen := r, skip := a.skip || decide (stuffK ≤ r.toNat) } := by
  show (⟨(a.run b).data, (a.run b).runVal, (a.run b).runLen, (a.run b).skip, (a.run b).hdr, (a.run b).dlc, (a.run b).trl,
    (a.run b).trlBad⟩ : Assembler) = _
  rw [a.run_skip b, a.run_runLen b, ← hr, a.run_data b, a.run_runVal b, a.run_hdr b, a.run_dlc b, a.run_trl b, a.run_trlBad b]

theorem Assembler.takeData_eq (a : Assembler) (b : Bit) (r : BitVec 3)
    (hr : r = if 0 < a.runLen.toNat ∧ b = a.runVal then a.runLen + 1 else 1) :
    a.takeData b = { a with data := a.data ++ [b], runVal := b, runLen := r, skip := a.skip || decide (stuffK ≤ r.toNat) } :=
  Assembler.run_eq { a with data := a.data ++ [b] } b r hr

theorem Assembler.takeTrail_eq (a : Assembler) (b : Bit) :
    a.takeTrail b = { a with trl := a.trl + 1, trlBad := a.trlBad || (b == dominant) } := by
  rw [← a.takeTrail_trlBad b]
  rfl

/-! ## The rows that go on receiving -/

/-- A row that writes the assembler's registers writes nothing else. -/
theorem onlyNode_of_setRx {s : State} {nd : Node} {a : Assembler} {r : Result} (g : Assembler → Assembler) (hn : s.node? = some nd)
    (h : r = updateCtl s fun c => { c with rx := g c.rx }) (ha : g nd.ctl.rx = a) :
    ∃ t, r = .next t ∧ t.seq.ended = s.seq.ended ∧ OnlyNode s t { nd with ctl := { nd.ctl with rx := a } } :=
  onlyNode_of_putNode hn (h.trans (by rw [updateCtl_of_node s nd _ hn, ha]))

/-- Settles O31: each row writes its register effect, RX.HDR that of RX.DATA and the two registers of the header. -/
theorem receivedBitsUpdateTheAssembler : Obligations.ReceivedBitsUpdateTheAssembler := by
  refine ⟨fun s nd b r hn hr => ?_, fun b => ⟨decode_encode (.rxData b) rfl, decode_encode (.rxHdr b) rfl⟩,
    fun s nd b hn => ⟨?_, ?_⟩, fun b => ⟨decode_encode (.rxSkip b) rfl, decode_encode (.rxTrail b) rfl⟩⟩
  · have hdata := Assembler.takeData_eq nd.ctl.rx b r hr
    refine ⟨onlyNode_of_setRx (·.takeData b) hn rfl hdata, onlyNode_of_setRx (·.takeHdr b) hn rfl ?_⟩
    dsimp only [Assembler.takeHdr]
    rw [hdata]
    rfl
  · exact onlyNode_of_setRx (·.takeSkip b) hn rfl rfl
  · exact onlyNode_of_setRx (·.takeTrail b) hn rfl (Assembler.takeTrail_eq nd.ctl.rx b)

/-- Settles O32: both rows write the assembler and then raise, which leaves it as written. -/
theorem receiveDecodeFaultsKeepTheBuffer : Obligations.ReceiveDecodeFaultsKeepTheBuffer := by
  refine ⟨fun s nd b r hn hr => ?_, fun s nd b hn => ?_,
    fun b => ⟨decode_encode (.rxHdrbad b) rfl, decode_encode (.rxBadeof b) rfl⟩⟩
  · have hraise := onlyNode_of_raiseCtl (r := exec (.rxHdrbad b) s) (c := { nd.ctl with rx := nd.ctl.rx.takeData b }) hn
      (withNode_of_node s nd _ hn)
    rwa [Assembler.takeData_eq nd.ctl.rx b r hr] at hraise
  · exact onlyNode_of_raiseCtl (c := { nd.ctl with rx := nd.ctl.rx.takeBadeof }) hn (withNode_of_node s nd _ hn)

/-! ## The frame of a complete reception (R106, R172) -/

theorem uval_lt (l : List Bit) : uval l < 2 ^ l.length := by
  induction l using List.reverseRecOn with
  | nil => decide
  | append_singleton l b ih =>
    have hb := b.toNat_le
    rw [uval_append_singleton, List.length_append, List.length_singleton, Nat.pow_succ]
    omega

/-- A field of n bits holds a number below 2 ^ n. -/
theorem uval_slice_lt (d : List Bit) (a b : Nat) : uval (slice d a b) < 2 ^ (b - a) :=
  (uval_lt _).trans_le (Nat.pow_le_pow_right (by decide) (List.length_take_le _ _))

/-- What a region decodes to is a valid frame: the fields are as wide as their bounds, and the DLC is checked (R100). -/
theorem frameValid_of_bitsToFrame {d : List Bit} {f : Frame} (h : bitsToFrame d = .ok f) : frameValid f = true := by
  unfold bitsToFrame at h
  split at h
  · cases h
  · split at h
    · cases h
    · next hdlc =>
      split at h
      · cases h
      · cases h
        have hid : idOf d ≤ maxId := Nat.le_of_lt_succ (uval_slice_lt d 1 12)
        have hbyte (j : Nat) : byteOf d j ≤ 255 := by
          have := uval_slice_lt d (16 + 8 * j) (24 + 8 * j)
          rw [show 24 + 8 * j - (16 + 8 * j) = 8 by omega] at this
          exact Nat.le_of_lt_succ this
        simp [frameValid, hid, not_lt.mp hdlc, hbyte]

/-- Settles O33: the row emits what the region decodes to; the class DONE comes of a complete region with a legal DLC only. -/
theorem completeReceptionEmitsTheFrame : Obligations.CompleteReceptionEmitsTheFrame := by
  refine ⟨fun s nd f b hn hf => ?_, fun a b hwf hc => ?_, fun b => decode_encode (.rxDone b) rfl⟩
  · refine onlyNode_of_putNode hn ((withNode_of_node s nd _ hn).trans ?_)
    rw [hf]
    rfl
  · obtain ⟨f, hf⟩ := Assembler.bitsToFrame_of_done hwf hc
    exact ⟨f, hf, frameValid_of_bitsToFrame hf⟩

/-! ## Preloading (R166, R175) -/

theorem length_destuffFrom_le (k : Nat) (rv : Bit) (rl : Nat) (skip : Bool) (l : List Bit) :
    (destuffFrom k rv rl skip l).length ≤ l.length := by
  induction l generalizing rv rl skip with
  | nil => exact Nat.le_refl _
  | cons b bs ih =>
    cases skip with
    | true =>
      rw [destuffFrom_skip]
      exact (ih ..).trans (Nat.le_succ _)
    | false =>
      rw [destuffFrom_data]
      exact Nat.succ_le_succ (ih ..)

/-- Before the header is complete the assembler collects the destuffed bits: its run is that of the destuffing loop. -/
theorem Assembler.foldl_feed_of_short (seen : List Bit) (a : Assembler) (h : a.wf) (hh : a.hdr = false)
    (hlen : a.data.length + seen.length < headerBits) :
    (seen.foldl Assembler.feed a).hdr = false ∧
      (seen.foldl Assembler.feed a).data = a.data ++ destuffFrom stuffK a.runVal a.runLen.toNat a.skip seen := by
  induction seen generalizing a with
  | nil => exact ⟨hh, (List.append_nil _).symm⟩
  | cons b bs ih =>
    rw [List.length_cons] at hlen
    rw [List.foldl_cons]
    cases hs : a.skip with
    | true =>
      rw [(Assembler.feed_of_skip hs).2, destuffFrom_skip]
      exact ih (a.takeSkip b) (Assembler.wf_takeSkip b h hs) hh (Nat.lt_of_succ_lt hlen)
    | false =>
      have hclass : a.rxClass b = .data := by rw [Assembler.rxClass_of_short hh (by omega), hs]; rfl
      have hfeed : a.feed b = a.takeData b := by rw [Assembler.feed, hclass]
      obtain ⟨hval, hrun, hskip⟩ := a.feed_run_of_data hs (Assembler.runLen_lt_of_not_skip h hs) (.inl hclass)
      rw [hfeed] at hval hrun hskip ⊢
      obtain ⟨hhdr, hdata⟩ := ih (a.takeData b) (Assembler.wf_takeData h hclass) (by simpa using hh) (by simp; omega)
      refine ⟨hhdr, ?_⟩
      rw [hdata, hval, hrun, hskip, Assembler.takeData_data, destuffFrom_data, List.append_assoc]
      rfl

/-- A preload shorter than the header holds the destuffed bits. -/
theorem Assembler.preload_of_short (seen : List Bit) (h : seen.length < headerBits) :
    (Assembler.preload seen).hdr = false ∧ (Assembler.preload seen).data = destuff seen stuffK :=
  Assembler.foldl_feed_of_short seen Assembler.reset Assembler.wf_reset rfl (by simpa [Assembler.reset] using h)

/-- Settles O34: a preload of at most 14 bits leaves the assembler in order before its header, so the next bit is a stuff bit or a data
bit; the first bit, dominant, starts the assembler as RxStart does. -/
theorem preloadEqualsListeningSinceTheSof : Obligations.PreloadEqualsListeningSinceTheSof := by
  refine ⟨fun seen hlen => ?_, fun rest => rfl⟩
  have hshort : seen.length < headerBits := by rw [headerBits_eq]; omega
  obtain ⟨hhdr, hdata⟩ := Assembler.preload_of_short seen hshort
  obtain ⟨hbefore, -⟩ := Assembler.wf_preload seen hshort
  obtain ⟨-, htrl, hbad⟩ := hbefore hhdr
  refine ⟨hdata, hhdr, htrl, hbad, fun n b hb => ?_⟩
  have hn : n < seen.length := (List.getElem?_eq_some_iff.mp hb).1
  have htake : (seen.take n).length = n := List.length_take_of_le hn.le
  obtain ⟨hhdr', hdata'⟩ := Assembler.preload_of_short (seen.take n) (by omega)
  have hle : (Assembler.preload (seen.take n)).data.length ≤ n := by
    rw [hdata']
    exact (length_destuffFrom_le ..).trans htake.le
  rw [Assembler.rxClass_of_short hhdr' (by rw [headerBits_eq]; omega)]
  split
  · exact .inr rfl
  · exact .inl rfl

end Sys2Proof.Machine
end

section
/-! Which operations may shorten a queue and which may write a bit (42_controller R178, R179): an operation writes no other
controller's part of the state, and of the rows of R84 and R85 only the sending ones touch the queue or the written bits. -/
namespace Sys2Proof.Machine

/-- The rows that write a bit (R157). -/
def WritesBit (i : Instr) : Prop :=
  (∃ c, i = .waitGo c) ∨ (∃ b c, i = .arbMatch b c) ∨ (∃ b c, i = .arbWon b c) ∨ (∃ b c, i = .txNext b c)

/-- What operation i may make of the queue and the written bits of its own node. -/
structure SendStep (i : Instr) (nd nd' : Node) : Prop where
  queue : nd.ctl.txq.map TxEntry.frame <+: nd'.ctl.txq.map TxEntry.frame ∨
    (∃ b c, i = .txDone b c) ∧ nd'.ctl.txq = nd.ctl.txq.tail
  bit : nd'.out.txBit = nd.out.txBit ∨ nd'.out.txBit = [] ∨ (∃ x, nd'.out.txBit = nd.out.txBit ++ [x]) ∧ WritesBit i

/-- The node whose turn it was in s has made such a step to t. -/
def OwnSendStep (i : Instr) (s : State) (nd : Node) (t : State) : Prop :=
  ∃ nd', t.nodes[s.seq.node]? = some nd' ∧ SendStep i nd nd'

/-- The queued frames stay, entry by entry, and so do the written bits. -/
theorem SendStep.of_same {i : Instr} {nd nd' : Node} (hq : nd'.ctl.txq.map TxEntry.frame = nd.ctl.txq.map TxEntry.frame)
    (hb : nd'.out.txBit = nd.out.txBit) : SendStep i nd nd' :=
  ⟨.inl (hq ▸ List.prefix_rfl), .inl hb⟩

section

variable {i : Instr} {s t : State} {nd : Node}

theorem ownSendStep_of_noEffect (hn : s.node? = some nd) (h : noEffect s = .next t) : OwnSendStep i s nd t := by
  obtain rfl : s = t := by simpa [noEffect] using h
  exact ⟨nd, hn, .of_same rfl rfl⟩

theorem ownSendStep_of_withNode (hn : s.node? = some nd) {k : Node → Result} (h : withNode s k = .next t)
    (hk : k nd = .next t → OwnSendStep i s nd t) : OwnSendStep i s nd t :=
  hk ((withNode_of_node s nd k hn).symm.trans h)

theorem ownSendStep_of_putNode (hn : s.node? = some nd) {nd' : Node} (h : (.next (s.putNode nd') : Result) = .next t)
    (hs : SendStep i nd nd') : OwnSendStep i s nd t := by
  obtain rfl : s.putNode nd' = t := by simpa using h
  exact ⟨nd', s.putNode_node? nd nd' hn, hs⟩

/-- `raise` discards the written bits and leaves the queue. -/
theorem ownSendStep_of_raiseCtl (hn : s.node? = some nd) {nd' : Node} {k : FaultKind} {info : Nat}
    (h : raiseCtl s nd' k info = .next t) (hq : nd'.ctl.txq = nd.ctl.txq) : OwnSendStep i s nd t := by
  obtain rfl := by simpa [raiseCtl] using h
  exact ⟨_, s.putNode_node? nd _ hn, .inl (by simp [hq]), .inr (.inl rfl)⟩

/-- TxWrite moves the head's cursor and writes one bit. -/
theorem ownSendStep_of_txWrite (hn : s.node? = some nd) {c : Controller} (h : txWrite s { nd with ctl := c } = .next t)
    (hq : c.txq = nd.ctl.txq) (hi : WritesBit i) : OwnSendStep i s nd t := by
  obtain ⟨e, q, b, he, -, rfl⟩ := txWrite_next s t _ h
  have hcons : nd.ctl.txq = e :: q := hq.symm.trans he
  exact ⟨_, s.putNode_node? nd _ hn, .inl (by simp [hcons]), .inr (.inr ⟨⟨b, rfl⟩, hi⟩)⟩

/-- A controller's operation makes such a step of its node. -/
theorem exec_ownSendStep {m : Nat} (hn : s.node? = some nd) (hi : actorOf s.seq.node i = .controller m) (h : exec i s = .next t) :
    OwnSendStep i s nd t := by
  cases i with
  | ctlHalted | ctlNobit | idleStay | enqHalted => exact ownSendStep_of_noEffect hn h
  | ctlBadState5 | ctlBadState67 | ctlBadStateRxc | ctlMulti | rxHdrbad | rxBadeof | enqBad =>
    exact ownSendStep_of_withNode hn h fun hk => ownSendStep_of_raiseCtl hn hk rfl
  | idleSof | idleStart | waitSof | waitCount | rxData | rxSkip | rxHdr | rxTrail =>
    exact ownSendStep_of_withNode hn h fun hk => ownSendStep_of_putNode hn hk (.of_same rfl rfl)
  | waitGo | arbMatch | arbWon | txNext =>
    exact ownSendStep_of_withNode hn h fun hk => ownSendStep_of_txWrite hn hk rfl (by simp [WritesBit])
  | arbLost =>
    refine ownSendStep_of_withNode hn h fun hk => ?_
    obtain ⟨e, q, hq, hk⟩ := withHead_next nd t _ hk
    cases hl : lastIndex e with
    | error => simp [hl] at hk
    | ok j =>
      rw [hl, Controller.setHeadOff_cons _ _ e q hq] at hk
      exact ownSendStep_of_putNode hn hk (.of_same (by simp [hq]) rfl)
  | arbBusfault =>
    refine ownSendStep_of_withNode hn h fun hk => ?_
    obtain ⟨e, q, -, hk⟩ := withHead_next nd t _ hk
    cases hl : lastIndex e with
    | error => simp [hl] at hk
    | ok j =>
      rw [hl] at hk
      exact ownSendStep_of_raiseCtl hn hk rfl
  | txDone b c =>
    refine ownSendStep_of_withNode hn h fun hk => ?_
    obtain ⟨e, q, -, hk⟩ := withHead_next nd t _ hk
    exact ownSendStep_of_putNode hn hk ⟨.inr ⟨⟨b, c, rfl⟩, rfl⟩, .inl rfl⟩
  | rxDone =>
    refine ownSendStep_of_withNode hn h fun hk => ?_
    cases hf : bitsToFrame nd.ctl.rx.data with
    | error => simp [hf] at hk
    | ok f =>
      rw [hf] at hk
      exact ownSendStep_of_putNode hn hk (.of_same rfl rfl)
  | enqFull =>
    refine ownSendStep_of_withNode hn h fun hk => ?_
    split at hk
    · exact ownSendStep_of_raiseCtl hn hk rfl
    · exact ownSendStep_of_noEffect hn hk
  | enq =>
    refine ownSendStep_of_withNode hn h fun hk => ?_
    cases hf : enqFrame s nd with
    | none => simp [hf] at hk
    | some f =>
      rw [hf] at hk
      exact ownSendStep_of_putNode hn hk ⟨.inl (by simp), .inl rfl⟩
  | _ => cases hi

/-- An operation leaves the controller's part of a node as it is, where it is not that controller's. -/
theorem exec_ctlPart {m : Nat} (hm : s.nodes[m]? = some nd) (hi : actorOf s.seq.node i ≠ .controller m) (h : exec i s = .next t) :
    ∃ nd', t.nodes[m]? = some nd' ∧ nd'.ctlPart = nd.ctlPart := by
  obtain ⟨-, -, -, -, hrest⟩ := exec_local i s s ⟨rfl, rfl, rfl, rfl⟩ t h
  have hpart : (t.nodes.map Node.ctlPart)[m]? = some nd.ctlPart := by
    have hsame : (s.nodes.map Node.ctlPart)[m]? = (t.nodes.map Node.ctlPart)[m]? := hrest (.controller m) hi.symm
    rw [← hsame, List.getElem?_map, hm, Option.map_some]
  rw [List.getElem?_map] at hpart
  exact Option.map_eq_some_iff.mp hpart

end

/-- A controller that carries an operation out is the one whose turn it is. -/
theorem eq_of_actorOf_eq_controller {n m : Nat} {i : Instr} (h : actorOf n i = .controller m) : m = n := by
  unfold actorOf at h
  split at h <;> cases h <;> rfl

/-- Settles O29: another controller's part of the state is left as it is, and the own one makes a step of its row. -/
theorem queueAndWrittenBitChangeOnlyByTheirRows : Obligations.QueueAndWrittenBitChangeOnlyByTheirRows := by
  intro i s t h m nd hm
  by_cases hi : actorOf s.seq.node i = .controller m
  · obtain rfl := eq_of_actorOf_eq_controller hi
    obtain ⟨nd', ht, hqueue, hbit⟩ := exec_ownSendStep hm hi h
    exact ⟨nd', ht, hqueue.imp_right fun hq => ⟨rfl, hq⟩, hbit.imp_right (Or.imp_right fun hb => ⟨rfl, hb⟩)⟩
  · obtain ⟨nd', ht, hpart⟩ := exec_ctlPart hm hi h
    have hctl : nd'.ctl = nd.ctl := congrArg Prod.fst hpart
    have hbit : nd'.out.txBit = nd.out.txBit := congrArg (fun p => p.2.1) hpart
    exact ⟨nd', ht, .inl (hctl ▸ List.prefix_rfl), .inl hbit⟩

end Sys2Proof.Machine
end

section
/-! The host's frames (42_controller R160 to R162): what each enqueue row writes, and the row that the frame's validity and the room in
the queue select (30_encoding R85). -/
namespace Sys2Proof.Machine

/-! ## The word of a frame (R85) -/

/-- A controller that has not faulted in this step takes the frame by its validity and by whether the queue is full. -/
theorem selected_of_enqTurn {s : State} {nd : Node} {f : Frame} (h : EnqTurn s nd f) :
    selected s = decode (.host (bits3 false (frameValid f) (queueFull s.cfg nd.ctl))) := by
  obtain ⟨hcall, hstage, hhalt, hended, hn, henq⟩ := h
  refine selected_of_fetch ?_
  simp [fetch, hcall, hstage, nodeSelector_of_node s nd _ hn, controllerSelector, henq, hostSelector, hhalt, hended]

theorem queueFull_of_depth {cfg : Config} {d : Nat} (c : Controller) (h : cfg.txqDepth = some d) :
    queueFull cfg c = decide (c.txq.length = d) := by
  simp only [queueFull, h]

theorem queueFull_of_unbounded {cfg : Config} (c : Controller) (h : cfg.txqDepth = none) : queueFull cfg c = false := by
  simp only [queueFull, h]

theorem queueFull_eq_false {cfg : Config} {c : Controller} (h : ∀ d, cfg.txqDepth = some d → c.txq.length ≠ d) :
    queueFull cfg c = false := by
  cases hd : cfg.txqDepth with
  | none => exact queueFull_of_unbounded c hd
  | some d => rw [queueFull_of_depth c hd, decide_eq_false (h d hd)]

/-! ## The rows -/

/-- The entry of a valid frame, field by field (R160). -/
theorem newEntry_of_valid {f : Frame} (h : frameValid f = true) :
    newEntry f = ⟨f, frameToBits f, BitVec.ofNat 7 (frameToBits f).length, BitVec.ofNat 4 (arbEnd f), 0⟩ := by
  rw [newEntry, rawStream_of_valid f h, rawArbEnd_of_valid f h]

/-- After an enqueue without a fault comes the next frame on the port. -/
theorem afterEnq_of_not_ended {s : State} (h : s.seq.ended = false) :
    s.afterEnq = { s with seq := { s.seq with enqIdx := s.seq.enqIdx + 1 } } := by
  unfold State.afterEnq
  split
  · rfl
  · rw [h]
    rfl

/-- Settles O35: a valid frame and room in the queue select the row, which pushes the new entry; as no fault was raised, the next frame
on the port follows. -/
theorem enqueuePushesTheEncodedFrame : Obligations.EnqueuePushesTheEncodedFrame := by
  refine ⟨fun s nd f hn hf hvalid => ?_, fun s nd f h hvalid hroom => ?_, rfl⟩
  · have hpush := onlyNode_of_putNode hn (execEnq_of_frame s nd f hn hf)
    rwa [newEntry_of_valid hvalid] at hpush
  · have hsel : selected s = some .enq := by
      rw [selected_of_enqTurn h, hvalid, queueFull_eq_false hroom]
      rfl
    obtain ⟨-, hstage, -, hended, hn, hf⟩ := h
    have hstep : step s = .next (State.afterEnq _) := step_of_selected hsel (execEnq_of_frame s nd f hn hf)
    rw [afterEnq_of_not_ended (by exact hended)] at hstep
    refine ⟨hsel, _, hstep, ?_, hstage, rfl, rfl⟩
    exact congrArg (Option.map Node.inp) (s.putNode_node? nd _ hn)

/-- Settles O36: the validity decides before the queue is looked at, and only a finite depth can be met. -/
theorem badAndOverflowingEnqueuesFault : Obligations.BadAndOverflowingEnqueuesFault := by
  refine ⟨fun s nd _ hn => ?_, fun s nd d hn hd => ?_, fun s nd f h hvalid => ?_, fun s nd f d h hvalid hd hlen => ?_,
    fun s nd f h hd => ?_, fun v => decode_encode (.enqBad v) rfl, rfl⟩
  · exact onlyNode_of_raiseCtl hn (withNode_of_node s nd _ hn)
  · refine onlyNode_of_raiseCtl hn ((withNode_of_node s nd _ hn).trans ?_)
    rw [hd]
  · refine ⟨queueFull s.cfg nd.ctl, ?_⟩
    rw [selected_of_enqTurn h, hvalid]
    exact decode_encode (.enqBad _) rfl
  · rw [selected_of_enqTurn h, hvalid, queueFull_of_depth _ hd, decide_eq_true hlen]
    rfl
  · rw [selected_of_enqTurn h, queueFull_of_unbounded _ hd]
    cases frameValid f <;> decide

end Sys2Proof.Machine
end

section
/-! `raise` and the codes of the fault kinds (60_exceptions R190, R191), and the error report (R194). -/
namespace Sys2Proof.Machine

/-! ## `raise` -/

/-- The code numbers the kinds in the order of the table. -/
theorem FaultKind.ofNat_code (k : FaultKind) : FaultKind.ofNat (k.code.toNat - 1) = k := by
  cases k <;> rfl

theorem FaultKind.code_injective (k k' : FaultKind) (h : k.code = k'.code) : k = k' := by
  rw [← k.ofNat_code, h, k'.ofNat_code]

/-- Settles O11: the info of a fresh record fits its register, and each kind has a code of its own. -/
theorem raiseLatchesTheFirstFault : Obligations.RaiseLatchesTheFirstFault := by
  refine ⟨fun r k info h => ?_, FaultReg.raise_of_latched, FaultKind.code_injective, fun k => ⟨k.code_ne_zero, ?_⟩,
    rfl, rfl, rfl, rfl, rfl, rfl, rfl, rfl, rfl, rfl, rfl, rfl, rfl, rfl⟩
  · rw [r.raise_of_clear k info h]
    exact ⟨rfl, Nat.mod_eq_of_lt (by omega)⟩
  · cases k <;> decide

/-! ## The error report -/

theorem mem_faultsFrom (mk : Nat → AgentId) (k : Nat) (l : List FaultReg) (a : AgentId) (r : FaultReg) :
    (a, r) ∈ faultsFrom mk k l ↔ r.latched = true ∧ ∃ n, a = mk (k + n) ∧ l[n]? = some r := by
  induction l generalizing k with
  | nil => simp [faultsFrom]
  | cons x xs ih =>
    have hstep : (r.latched = true ∧ ∃ n, a = mk (k + n) ∧ (x :: xs)[n]? = some r) ↔
        r.latched = true ∧ a = mk k ∧ x = r ∨ (a, r) ∈ faultsFrom mk (k + 1) xs := by
      rw [ih, ← and_or_left]
      refine and_congr_right fun _ => ⟨?_, ?_⟩
      · rintro ⟨_ | n, ha, hn⟩
        · exact .inl ⟨ha, Option.some.inj hn⟩
        · exact .inr ⟨n, by rw [ha, Nat.add_right_comm k 1 n]; rfl, hn⟩
      · rintro (⟨ha, hx⟩ | ⟨n, ha, hn⟩)
        · exact ⟨0, ha, congrArg some hx⟩
        · exact ⟨n + 1, by rw [ha, Nat.add_right_comm k 1 n]; rfl, hn⟩
    rw [hstep, faultsFrom]
    split
    · next hx =>
      rw [List.mem_cons, Prod.mk.injEq]
      exact or_congr_left ⟨fun ⟨ha, hr⟩ => ⟨hr ▸ hx, ha, hr.symm⟩, fun ⟨_, ha, hr⟩ => ⟨ha, hr.symm⟩⟩
    · next hx => exact (or_iff_right fun ⟨hr, _, h⟩ => hx (h ▸ hr)).symm

/-- The agents of one kind stand in the report by ascending node. -/
theorem exists_nodes_faultsFrom (mk : Nat → AgentId) (k : Nat) (l : List FaultReg) :
    ∃ ns : List Nat, (faultsFrom mk k l).map Prod.fst = ns.map mk ∧ ns.Pairwise (· < ·) ∧ ∀ n ∈ ns, k ≤ n := by
  induction l generalizing k with
  | nil => exact ⟨[], rfl, .nil, by simp⟩
  | cons x xs ih =>
    obtain ⟨ns, hmap, hlt, hge⟩ := ih (k + 1)
    rw [faultsFrom]
    split
    · refine ⟨k :: ns, by rw [List.map_cons, hmap, List.map_cons], List.pairwise_cons.mpr ⟨hge, hlt⟩, fun n hn => ?_⟩
      rcases List.mem_cons.mp hn with rfl | hn
      · exact le_rfl
      · exact Nat.le_of_succ_le (hge n hn)
    · exact ⟨ns, hmap, hlt, fun n hn => Nat.le_of_succ_le (hge n hn)⟩

/-- One kind of the nodes' agents in the report: the latched records, each under its node's number. -/
theorem mem_faultsFrom_nodes (mk : Nat → AgentId) (f : Node → FaultReg) (l : List Node) (a : AgentId) (r : FaultReg) :
    (a, r) ∈ faultsFrom mk 0 (l.map f) ↔ r.code ≠ 0 ∧ ∃ n nd, a = mk n ∧ l[n]? = some nd ∧ r = f nd := by
  simp only [mem_faultsFrom, FaultReg.latched_iff, Nat.zero_add, List.getElem?_map, Option.map_eq_some_iff, exists_and_left,
    eq_comm (a := r)]

/-- Settles O58: the three parts of the report hold the latched records of one kind of agent each, in the order of the nodes. -/
theorem errorReportListsEveryFaultingAgent : Obligations.ErrorReportListsEveryFaultingAgent := by
  intro s
  have hwires (a : AgentId) (r : FaultReg) : (a, r) ∈ (if s.wires.fault.latched then [(AgentId.wires, s.wires.fault)] else []) ↔
      r.code ≠ 0 ∧ a = .wires ∧ r = s.wires.fault := by
    rw [← FaultReg.latched_iff]
    split
    · next h =>
      rw [List.mem_singleton, Prod.mk.injEq]
      exact ⟨fun ⟨ha, hr⟩ => ⟨hr ▸ h, ha, hr⟩, And.right⟩
    · next h => exact iff_of_false List.not_mem_nil fun ⟨hlatched, _, hr⟩ => h (hr ▸ hlatched)
  refine ⟨fun a r => ?_, ?_⟩
  · rw [errorReport, List.mem_append, List.mem_append, mem_faultsFrom_nodes, mem_faultsFrom_nodes, hwires, ← and_or_left,
      ← and_or_left, or_assoc]
  · obtain ⟨c, hc, hclt, -⟩ := exists_nodes_faultsFrom .controller 0 (s.nodes.map fun nd => nd.ctl.fault)
    obtain ⟨x, hx, hxlt, -⟩ := exists_nodes_faultsFrom .transceiver 0 (s.nodes.map fun nd => nd.xcvFault)
    refine ⟨c, x, if s.wires.fault.latched then [0] else [], ?_, hclt, hxlt, ?_⟩
    · rw [errorReport, List.map_append, List.map_append, hc, hx]
      split <;> rfl
    · split <;> decide

end Sys2Proof.Machine
end

section
/-! The idle watchdog (60_exceptions R198 to R204): the row that the conditions of 30_encoding R90 select, the merge of the reports,
and what each row writes. -/
namespace Sys2Proof.Machine

/-! ## The row (R90) -/

/-- The row of format WD that the conditions K, A, S and T select, first match first. -/
def watchdogRow : Bit → Bit → Bit → Bit → Instr
  | false, a, s, t => .wdgDormant (bit1 a ++ bit1 s ++ bit1 t)
  | true, false, true, t => .wdgRequest t
  | true, false, false, t => .wdgContBusy t
  | true, true, s, true => .wdgSleep s
  | true, true, s, false => .wdgContIdle s

theorem encode_watchdogRow (k a s t : Bit) : encode (watchdogRow k a s t) =
    .wd (BitVec.ofBool k ++ BitVec.ofBool a ++ BitVec.ofBool s ++ BitVec.ofBool t) := by
  revert k a s t
  decide

theorem selected_of_watchdog {s : State} (hcall : s.fn.call = none) (hstage : s.seq.stage = .wd) :
    selected s = some (watchdogRow (wdAwake s.wd) (wdAllIdle s.wd) (decide (s.cfg.tStart < s.wd.idle'))
      (decide (s.cfg.tStop < s.wd.idle'))) := by
  have hfetch : fetch s = .ok (.wd (wdSelector s.cfg s.wd)) := by simp [fetch, hcall, hstage]
  rw [wdSelector, ← encode_watchdogRow] at hfetch
  exact selected_of_encode hfetch (wellFormed_of_not_ctl _ (by simp [encode_watchdogRow, Selector.format]))

/-- Only the condition K tells the row DORMANT. -/
theorem watchdogRow_awake_ne_dormant (a s t : Bit) (x : BitVec 3) : watchdogRow true a s t ≠ .wdgDormant x := by
  cases a <;> cases s <;> cases t <;> nofun

/-! ## The conditions K and A -/

theorem wdAwake_iff (w : Watchdog) :
    wdAwake w = true ↔ w.active = true ∨ w.wdState ≠ [] ∨ w.wdBusLow ≠ [] ∨ w.wdBusHigh ≠ [] := by
  simp [wdAwake, or_assoc]

theorem wdAwake_of_silent (w : Watchdog) (hactive : w.active = false) (hstate : w.wdState = []) (hlow : w.wdBusLow = [])
    (hhigh : w.wdBusHigh = []) : wdAwake w = false := by
  simp [wdAwake, hactive, hstate, hlow, hhigh]

theorem wdAllIdle_of_idle (w : Watchdog) (h : ∀ x ∈ w.merged, x = CtlState.idle) : wdAllIdle w = true :=
  List.all_eq_true.mpr fun x hx => beq_iff_eq.mpr (h x hx)

theorem wdAllIdle_of_busy (w : Watchdog) (h : ∃ x ∈ w.merged, x ≠ CtlState.idle) : wdAllIdle w = false := by
  obtain ⟨x, hx, hne⟩ := h
  exact List.all_eq_false.mpr ⟨x, hx, by simpa using hne⟩

/-- A watchdog that dormancy does not stop (R198, R200). -/
theorem selected_of_awake {s : State} (hcall : s.fn.call = none) (hstage : s.seq.stage = .wd)
    (hawake : s.wd.active = true ∨ s.wd.wdState ≠ [] ∨ s.wd.wdBusLow ≠ [] ∨ s.wd.wdBusHigh ≠ []) :
    selected s = some (watchdogRow true (wdAllIdle s.wd) (decide (s.cfg.tStart < s.wd.idle'))
      (decide (s.cfg.tStop < s.wd.idle'))) := by
  rw [selected_of_watchdog hcall hstage, (wdAwake_iff s.wd).mpr hawake]

/-! ## The merge (R198, R199) -/

/-- The merge of a list of reports, one after the other. -/
def mergeReports (rs : List StateReport) (last : List (BitVec 3)) : List (BitVec 3) :=
  rs.foldl (fun l r => l.set r.node r.state) last

theorem Watchdog.merged_eq (w : Watchdog) : w.merged = mergeReports w.wdState w.last := rfl

theorem mergeReports_cons (r : StateReport) (rs : List StateReport) (last : List (BitVec 3)) :
    mergeReports (r :: rs) last = mergeReports rs (last.set r.node r.state) := rfl

/-- A node without a report keeps its last value. -/
theorem getElem?_mergeReports_of_silent (rs : List StateReport) (last : List (BitVec 3)) (n : Nat) (h : ∀ r ∈ rs, r.node ≠ n) :
    (mergeReports rs last)[n]? = last[n]? := by
  induction rs generalizing last with
  | nil => rfl
  | cons r rs ih =>
    obtain ⟨hr, hrs⟩ := List.forall_mem_cons.mp h
    rw [mergeReports_cons, ih _ hrs, List.getElem?_set_ne hr]

/-- A node with one report takes its value. -/
theorem getElem?_mergeReports_of_report (rs : List StateReport) (last : List (BitVec 3)) (r : StateReport) (hr : r ∈ rs)
    (hlt : r.node < last.length) (hone : ∀ r' ∈ rs, r'.node = r.node → r' = r) :
    (mergeReports rs last)[r.node]? = some r.state := by
  induction rs generalizing last with
  | nil => simp at hr
  | cons x xs ih =>
    obtain ⟨hx, hxs⟩ := List.forall_mem_cons.mp hone
    rw [mergeReports_cons]
    by_cases hmem : r ∈ xs
    · exact ih _ hmem (by rwa [List.length_set]) hxs
    · obtain rfl : r = x := (List.mem_cons.mp hr).resolve_right hmem
      rw [getElem?_mergeReports_of_silent xs _ r.node fun r' hr' hn => hmem (hxs r' hr' hn ▸ hr'), List.getElem?_set_self hlt]

/-- Settles O45: the row DORMANT is told by K alone; a node's merged value is that of its report, or its last one. -/
theorem watchdogObservesReportsAndSilence : Obligations.WatchdogObservesReportsAndSilence := by
  refine ⟨fun _ _ => rfl, fun s hcall hstage => ⟨fun hactive hstate hlow hhigh => ?_, fun hawake x hx => ?_⟩,
    fun w n => getElem?_mergeReports_of_silent w.wdState w.last n,
    fun w => getElem?_mergeReports_of_report w.wdState w.last, Watchdog.length_merged,
    fun w => ⟨fun h => if_pos h, fun h => if_neg (not_not.mpr h)⟩⟩
  · rw [selected_of_watchdog hcall hstage, wdAwake_of_silent s.wd hactive hstate hlow hhigh]
    exact ⟨_, rfl⟩
  · rw [selected_of_awake hcall hstage hawake] at hx
    exact watchdogRow_awake_ne_dormant _ _ _ x (Option.some.inj hx)

/-! ## The rows of an awake watchdog (R201 to R204) -/

theorem onlyWatchdog_set (s : State) (w : Watchdog) : OnlyWatchdog s { s with wd := w } w :=
  ⟨rfl, rfl, rfl, rfl, rfl, rfl, rfl, rfl, rfl, rfl, rfl, rfl, rfl⟩

/-- Settles O46: A is 0 and S is 1. -/
theorem watchdogRequestsAfterTheStartThreshold : Obligations.WatchdogRequestsAfterTheStartThreshold := by
  refine ⟨fun s _ => ⟨_, rfl, onlyWatchdog_set s _⟩, fun s hcall hstage hawake hbusy hstart => ?_,
    fun b => decode_encode (.wdgRequest b) rfl⟩
  rw [selected_of_awake hcall hstage hawake, wdAllIdle_of_busy s.wd hbusy, decide_eq_true hstart]
  exact ⟨_, rfl⟩

/-- Settles O47: A tells the busy rows, where S decides, from the idle ones, where T decides. -/
theorem watchdogKeepsCountingOrSleeps : Obligations.WatchdogKeepsCountingOrSleeps := by
  refine ⟨fun s _ => ⟨_, rfl, onlyWatchdog_set s _⟩, fun s _ => ⟨_, rfl, onlyWatchdog_set s _⟩,
    fun s _ => ⟨_, rfl, onlyWatchdog_set s _⟩, fun s hcall hstage hawake => ?_, fun b => ⟨decode_encode (.wdgContBusy b) rfl,
      decode_encode (.wdgSleep b) rfl, decode_encode (.wdgContIdle b) rfl⟩⟩
  rw [selected_of_awake hcall hstage hawake]
  refine ⟨fun hbusy hstart => ?_, fun hidle hstop => ?_, fun hidle hstop => ?_⟩
  · rw [wdAllIdle_of_busy s.wd hbusy, decide_eq_false (not_lt.mpr hstart)]
    exact ⟨_, rfl⟩
  · rw [wdAllIdle_of_idle s.wd hidle, decide_eq_true hstop]
    exact ⟨_, rfl⟩
  · rw [wdAllIdle_of_idle s.wd hidle, decide_eq_false (not_lt.mpr hstop)]
    exact ⟨_, rfl⟩

end Sys2Proof.Machine
end

section
/-! The end of a system step and HALT (20_memory R51, 60_exceptions R192): a step goes on in the running system step or ends it, HALT
is decided there, and in a halted step the controllers have turns without effect (42_controller R142). -/
namespace Sys2Proof.Machine

/-! ## Where a step leads -/

theorem State.nextAgent_turn_or_commit (s : State) : (∃ g n, s.nextAgent = s.turn g n) ∨ s.nextAgent = s.commit := by
  unfold State.nextAgent
  split
  · split
    · exact .inl ⟨_, _, rfl⟩
    · split
      · exact .inr rfl
      · exact .inl ⟨_, _, rfl⟩
  · split <;> exact .inl ⟨_, _, rfl⟩
  · split <;> exact .inl ⟨_, _, rfl⟩
  · exact .inl ⟨_, _, rfl⟩
  · exact .inl ⟨_, _, rfl⟩
  · exact .inr rfl

/-- `t` stands in the system step of `s`, or at its end. -/
inductive InStepOrEnd (s : State) : State → Prop where
  | goesOn (t : State) (h : t.t = s.t) : InStepOrEnd s t
  | ends (u : State) (h : u.t = s.t) : InStepOrEnd s u.commit

theorem InStepOrEnd.of_time {s u t : State} (h : InStepOrEnd u t) (hu : u.t = s.t) : InStepOrEnd s t := by
  cases h with
  | goesOn _ h => exact .goesOn _ (h.trans hu)
  | ends v h => exact .ends v (h.trans hu)

theorem nextAgent_inStepOrEnd {s u : State} (h : u.t = s.t) : InStepOrEnd s u.nextAgent := by
  rcases u.nextAgent_turn_or_commit with ⟨g, n, hn⟩ | hn
  · exact hn ▸ .goesOn _ h
  · exact hn ▸ .ends u h

theorem afterEnq_inStepOrEnd (s : State) : InStepOrEnd s s.afterEnq := by
  unfold State.afterEnq
  dsimp only
  split
  · exact .goesOn _ rfl
  · split
    · exact nextAgent_inStepOrEnd rfl
    · exact .goesOn _ rfl

theorem advance_inStepOrEnd (s : State) (f : Format) : InStepOrEnd s (s.advance f) := by
  cases f with
  | host => exact afterEnq_inStepOrEnd s
  | ctl => exact nextAgent_inStepOrEnd (reportState_sameTurn s).t
  | xw =>
    rw [State.advance]
    split
    · exact nextAgent_inStepOrEnd rfl
    · exact .goesOn _ rfl
  | xr | wr | wd => exact nextAgent_inStepOrEnd rfl
  | wi | fn => exact .goesOn _ rfl

theorem step_inStepOrEnd {s t : State} (h : step s = .next t) : InStepOrEnd s t := by
  obtain ⟨f, u, heffect, rfl⟩ := step_effect s t h
  exact (advance_inStepOrEnd u f).of_time heffect.sameTurn.t

/-! ## HALT -/

theorem SameRegisters.anyFault {s t : State} (h : SameRegisters s t) : t.anyFault = s.anyFault := by
  obtain ⟨hnodes, -, hwires, -⟩ := h
  have hany (l : List Node) : (l.any fun nd => nd.ctl.fault.latched || nd.xcvFault.latched) =
      (l.map fun nd => (nd.ctl, nd.xcvFault)).any fun p => p.1.fault.latched || p.2.latched := by
    rw [List.any_map]
    rfl
  rw [State.anyFault, State.anyFault, hany, hany, hnodes, hwires]

/-- The fault records decide HALT at the start of the next system step. -/
theorem State.commit_halted (s : State) : s.commit.seq.halted = s.commit.anyFault :=
  (commit_sameRegisters s).anyFault.symm

/-! ## The turns of a halted step -/

/-- A controller's frame in a halted step, or after a fault of its own in this step. -/
theorem exists_selected_enqHalted {s : State} {nd : Node} {f : Frame} (hcall : s.fn.call = none) (hstage : s.seq.stage = .ctl)
    (hn : s.node? = some nd) (hf : enqFrame s nd = some f) (h : s.seq.halted = true ∨ s.seq.ended = true) :
    ∃ vf, selected s = some (.enqHalted vf) := by
  have hor : (s.seq.halted || s.seq.ended) = true := by simpa using h
  have hfetch : fetch s = .ok (.host (bits3 true (frameValid f) (queueFull s.cfg nd.ctl))) := by
    simp [fetch, hcall, hstage, nodeSelector_of_node s nd _ hn, controllerSelector, hf, hostSelector, hor]
  obtain ⟨i, hi⟩ := exists_decode (.host (bits3 true (frameValid f) (queueFull s.cfg nd.ctl)))
  obtain ⟨vf, rfl⟩ := enqHalted_of_firstMatch _ _ i hi
  exact ⟨vf, (selected_of_fetch hfetch).trans hi⟩

theorem exists_selected_ctlHalted {s : State} {nd : Node} (hcall : s.fn.call = none) (hstage : s.seq.stage = .ctl)
    (hhalt : s.seq.halted = true) (hn : s.node? = some nd) (hf : enqFrame s nd = none) :
    ∃ st n b c, selected s = some (.ctlHalted st n b c) := by
  obtain ⟨w, hw⟩ : ∃ w, ctlSelector true nd = .ok w := ⟨_, rfl⟩
  have hfetch : fetch s = .ok (.ctl w) := by
    simp [fetch, hcall, hstage, nodeSelector_of_node s nd _ hn, controllerSelector, hf, hhalt, hw]
  obtain ⟨c, rfl, -⟩ := ctlSelector_word true nd w hw
  obtain ⟨i, hi⟩ := exists_decode (.ctl _)
  obtain ⟨st, n, b, c, rfl⟩ := ctlHalted_of_firstMatch _ _ _ c i hi
  exact ⟨st, n, b, c, (selected_of_fetch hfetch).trans hi⟩

/-- What a turn of a halted step comes to: the next controller's turn, and within the system step no port has changed either. -/
structure HaltedTurn (s t : State) : Prop where
  stage : t.seq.stage = .ctl
  same : t.t = s.t → t.nodes = s.nodes ∧ t.wires = s.wires ∧ t.wd = s.wd

theorem nextAgent_haltedTurn {s : State} (hstage : s.seq.stage = .ctl) (hhalt : s.seq.halted = true) :
    HaltedTurn s s.nextAgent := by
  simp only [State.nextAgent, hstage, hhalt]
  split
  · exact ⟨rfl, fun _ => ⟨rfl, rfl, rfl⟩⟩
  · exact ⟨rfl, fun htime => absurd htime (Nat.succ_ne_self s.t)⟩

theorem afterEnq_haltedTurn {s : State} (hstage : s.seq.stage = .ctl) (hhalt : s.seq.halted = true) :
    HaltedTurn s s.afterEnq := by
  have hmore : HaltedTurn s { s with seq := { s.seq with enqIdx := s.seq.enqIdx + 1 } } := ⟨hstage, fun _ => ⟨rfl, rfl, rfl⟩⟩
  unfold State.afterEnq
  dsimp only
  split
  · exact hmore
  · split
    · exact nextAgent_haltedTurn hstage hhalt
    · exact hmore

theorem step_haltedTurn {s : State} (hcall : s.fn.call = none) (hhalt : s.seq.halted = true) (hstage : s.seq.stage = .ctl)
    (hlt : s.seq.node < s.nodes.length) :
    ((∃ st n b c, selected s = some (.ctlHalted st n b c)) ∨ ∃ vf, selected s = some (.enqHalted vf)) ∧
      ∃ t, step s = .next t ∧ SameRegisters s t ∧ HaltedTurn s t := by
  obtain ⟨nd, hn⟩ : ∃ nd, s.node? = some nd := ⟨_, List.getElem?_eq_getElem hlt⟩
  cases hf : enqFrame s nd with
  | none =>
    obtain ⟨st, n, b, c, hsel⟩ := exists_selected_ctlHalted hcall hstage hhalt hn hf
    refine ⟨.inl ⟨st, n, b, c, hsel⟩, _, step_of_selected hsel rfl, advance_sameRegisters s _, ?_⟩
    show HaltedTurn s (reportState s).nextAgent
    rw [reportState_of_silent hn (.inl hhalt)]
    exact nextAgent_haltedTurn hstage hhalt
  | some f =>
    obtain ⟨vf, hsel⟩ := exists_selected_enqHalted hcall hstage hn hf (.inl hhalt)
    exact ⟨.inr ⟨vf, hsel⟩, _, step_of_selected hsel rfl, advance_sameRegisters s _, afterEnq_haltedTurn hstage hhalt⟩

/-- Settles O13: H = 1 has one row in each of the two formats, which has no effect, so that only the turn passes on; and where the step
number changes the state is that of a commit, which sets HALT. -/
theorem haltedStepFreezesTheRegisters : Obligations.HaltedStepFreezesTheRegisters := by
  have hrow : ∀ x : BitVec 9, (0b1#1 ++ x) &&& 0b1000000000#10 == 0b1000000000#10 := by decide +kernel
  refine ⟨fun s hcall hhalt hstage hlt => ?_, fun s t h htime => ?_, fun _ _ _ _ _ => rfl, fun _ _ => rfl,
    fun x => ⟨_, _, _, _, if_pos (hrow x)⟩, fun x => decode_encode (.enqHalted x) rfl,
    fun _ _ _ => exists_selected_enqHalted⟩
  · obtain ⟨hsel, t, hstep, hsame, hturn⟩ := step_haltedTurn hcall hhalt hstage hlt
    exact ⟨hsel, t, hstep, hsame, hturn.stage, hturn.same⟩
  · cases step_inStepOrEnd h with
    | goesOn _ h => exact absurd h htime
    | ends u => exact u.commit_halted

end Sys2Proof.Machine
end

section
/-! A run and its result (60_exceptions R212, R213): the system steps it took, the frames emitted in them, and what ended it. -/
namespace Sys2Proof.Machine

/-! ## The step number does not fall -/

theorem InStepOrEnd.time_le {s t : State} (h : InStepOrEnd s t) : s.t ≤ t.t := by
  cases h with
  | goesOn _ h => exact h.ge
  | ends u h => exact h ▸ Nat.le_succ u.t

theorem runToBoundary_time_le (fuel : Nat) (s t : State) (h : runToBoundary fuel s = .next t) : s.t ≤ t.t := by
  induction fuel generalizing s with
  | zero => cases h; exact le_rfl
  | succ fuel ih =>
    rw [runToBoundary] at h
    split at h
    · next u hu =>
      have hle := (step_inStepOrEnd hu).time_le
      split at h
      · exact hle.trans (ih u h)
      · cases h
        exact hle
    · cases h
    · cases h

theorem systemStep_time_le {s t : State} (h : systemStep s = .next t) : s.t ≤ t.t := runToBoundary_time_le _ s t h

/-- Several system steps are one and then the others. -/
theorem systemSteps_succ_next {k : Nat} {s t : State} (h : systemSteps (k + 1) s = .next t) :
    ∃ u, systemStep s = .next u ∧ systemSteps k u = .next t := by
  rw [systemSteps] at h
  split at h
  · next u hu => exact ⟨u, hu, h⟩
  · cases h
  · cases h

/-! ## The frames of a run -/

/-- The frames emitted in the first `m` system steps from `s`. -/
def framesDuring : Nat → State → List EmittedFrame
  | 0, _ => []
  | m + 1, s =>
    match systemStep s with
    | .next t => t.framesOf s.t ++ framesDuring m t
    | _ => []

theorem framesDuring_succ (m : Nat) {s t : State} (h : systemStep s = .next t) :
    framesDuring (m + 1) s = t.framesOf s.t ++ framesDuring m t := by
  rw [framesDuring, h]

theorem framesDuring_of_stop (m : Nat) {s : State} (h : ∀ t, systemStep s ≠ .next t) : framesDuring m s = [] := by
  cases m with
  | zero => rfl
  | succ m =>
    rw [framesDuring]
    split
    · next t ht => exact absurd ht (h t)
    · rfl

/-- The system step j of a run from `s` emits the frame. -/
def EmittedAt (s : State) (j : Nat) (e : EmittedFrame) : Prop :=
  ∃ v w nd, systemSteps j s = .next v ∧ systemStep v = .next w ∧ e.step = v.t ∧ w.nodes[e.node]? = some nd ∧
    e.frame ∈ nd.inp.hostFrame

theorem emittedAt_zero {s t : State} (h : systemStep s = .next t) (e : EmittedFrame) : EmittedAt s 0 e ↔ e ∈ t.framesOf s.t := by
  rw [State.mem_framesOf]
  constructor
  · rintro ⟨v, w, nd, hv, hw, hstep, hnode, hframe⟩
    cases hv
    obtain rfl : t = w := by rw [h] at hw; injection hw
    exact ⟨hstep, nd, hnode, hframe⟩
  · rintro ⟨hstep, nd, hnode, hframe⟩
    exact ⟨s, t, nd, rfl, h, hstep, hnode, hframe⟩

theorem emittedAt_succ {s t : State} (h : systemStep s = .next t) (j : Nat) (e : EmittedFrame) :
    EmittedAt s (j + 1) e ↔ EmittedAt t j e := by
  simp only [EmittedAt, systemSteps_succ j s t h]

theorem not_emittedAt_of_stop {s : State} (h : ∀ t, systemStep s ≠ .next t) (j : Nat) (e : EmittedFrame) : ¬ EmittedAt s j e := by
  rintro ⟨v, w, nd, hv, hw, -⟩
  cases j with
  | zero =>
    cases hv
    exact h w hw
  | succ j =>
    obtain ⟨t, ht, -⟩ := systemSteps_succ_next hv
    exact h t ht

theorem mem_framesDuring (m : Nat) (s : State) (e : EmittedFrame) : e ∈ framesDuring m s ↔ ∃ j, j < m ∧ EmittedAt s j e := by
  induction m generalizing s with
  | zero => simp [framesDuring]
  | succ m ih =>
    by_cases hstep : ∃ t, systemStep s = .next t
    · obtain ⟨t, ht⟩ := hstep
      rw [framesDuring_succ m ht, List.mem_append, ih, ← emittedAt_zero ht]
      constructor
      · rintro (h | ⟨j, hj, h⟩)
        · exact ⟨0, Nat.succ_pos m, h⟩
        · exact ⟨j + 1, Nat.succ_lt_succ hj, (emittedAt_succ ht j e).mpr h⟩
      · rintro ⟨_ | j, hj, h⟩
        · exact .inl h
        · exact .inr ⟨j, Nat.lt_of_succ_lt_succ hj, (emittedAt_succ ht j e).mp h⟩
    · have hstop := not_exists.mp hstep
      rw [framesDuring_of_stop _ hstop]
      exact iff_of_false List.not_mem_nil fun ⟨j, _, h⟩ => not_emittedAt_of_stop hstop j e h

/-- No frame of the run is older than its beginning. -/
theorem time_le_of_mem_framesDuring (m : Nat) (s : State) : ∀ e ∈ framesDuring m s, s.t ≤ e.step := by
  induction m generalizing s with
  | zero => simp [framesDuring]
  | succ m ih =>
    intro e he
    rw [framesDuring] at he
    split at he
    · next t ht =>
      rcases List.mem_append.mp he with he | he
      · exact ((t.mem_framesOf s.t e).mp he).1.ge
      · exact (systemStep_time_le ht).trans (ih t e he)
    · simp at he

theorem framesDuring_pairwise (m : Nat) (s : State) : (framesDuring m s).Pairwise fun e e' => e.step ≤ e'.step := by
  induction m generalizing s with
  | zero => exact .nil
  | succ m ih =>
    rw [framesDuring]
    split
    · next t ht =>
      have hfirst {e : EmittedFrame} (he : e ∈ t.framesOf s.t) : e.step = s.t := ((t.mem_framesOf s.t e).mp he).1
      refine List.pairwise_append.mpr ⟨?_, ih t, fun e he e' he' => ?_⟩
      · exact List.pairwise_of_forall_mem_list fun e he e' he' => ((hfirst he).trans (hfirst he').symm).le
      · exact (hfirst he).le.trans ((systemStep_time_le ht).trans (time_le_of_mem_framesDuring m t e' he'))
    · exact .nil

/-! ## What ended the run -/

theorem State.runEnded_eq_false_iff (s : State) : s.runEnded = false ↔ s.anyFault = false ∧ s.runQuiesced = false :=
  Bool.or_eq_false_iff

/-- A run from `s` takes `m` system steps to `u`: none of them raises a fault, and the run has not quiesced before `u`. -/
structure GoesOn (m : Nat) (s u : State) : Prop where
  steps : systemSteps m s = .next u
  noFault : u.anyFault = false
  before : ∀ j v, j < m → systemSteps j s = .next v → v.runEnded = false

theorem GoesOn.zero {s : State} (h : s.anyFault = false) : GoesOn 0 s s := ⟨rfl, h, fun _ _ hj => absurd hj (Nat.not_lt_zero _)⟩

theorem GoesOn.succ {m : Nat} {s t u : State} (hs : s.runEnded = false) (ht : systemStep s = .next t) (h : GoesOn m t u) :
    GoesOn (m + 1) s u := by
  refine ⟨(systemSteps_succ m s t ht).trans h.steps, h.noFault, fun j v hj hv => ?_⟩
  cases j with
  | zero =>
    cases hv
    exact hs
  | succ j => exact h.before j v (Nat.lt_of_succ_lt_succ hj) ((systemSteps_succ j s t ht).symm.trans hv)

/-- `u` is the state after the `m` steps. -/
theorem GoesOn.last_eq {m : Nat} {s u v : State} (h : GoesOn m s u) (hv : systemSteps m s = .next v) : u = v := by
  have huv := h.steps.symm.trans hv
  injection huv

theorem GoesOn.noFault_upTo {m j : Nat} {s u v : State} (h : GoesOn m s u) (hj : j ≤ m) (hv : systemSteps j s = .next v) :
    v.anyFault = false := by
  rcases hj.lt_or_eq with hj | rfl
  · exact (v.runEnded_eq_false_iff.mp (h.before j v hj hv)).1
  · exact h.last_eq hv ▸ h.noFault

/-- When the run has not quiesced in its last state, none of its states has ended it. -/
theorem GoesOn.upTo {m : Nat} {s u : State} (h : GoesOn m s u) (hu : u.runQuiesced = false) :
    ∀ j v, j ≤ m → systemSteps j s = .next v → v.runEnded = false := by
  intro j v hj hv
  rcases hj.lt_or_eq with hlt | rfl
  · exact h.before j v hlt hv
  · exact v.runEnded_eq_false_iff.mpr ⟨h.noFault_upTo hj hv, h.last_eq hv ▸ hu⟩

/-- What a run of at most `fuel` system steps from `s` gives: it quiesced, a fault ended it, or the steps are used up. -/
inductive RunGives (fuel : Nat) (s : State) : RunOutcome → List EmittedFrame → Prop where
  | quiesced {m : Nat} {u : State} (h : GoesOn m s u) (hu : u.runQuiesced = true) (fs : List EmittedFrame) :
      RunGives fuel s ⟨some (.quiesced (fs ++ framesDuring m s)), u⟩ fs
  | faulted {m : Nat} {u t : State} (h : GoesOn m s u) (hu : u.runQuiesced = false) (ht : systemStep u = .next t)
      (hf : t.anyFault = true) (fs : List EmittedFrame) :
      RunGives fuel s ⟨some (.faulted (errorReport t) u.t (fs ++ framesDuring (m + 1) s)), t⟩ fs
  | unfinished {u : State} (h : GoesOn fuel s u) (hu : u.runQuiesced = false) (fs : List EmittedFrame) :
      RunGives fuel s ⟨none, u⟩ fs

/-- One step before what a run gives, when it did not end it. -/
theorem RunGives.succ {fuel : Nat} {s t : State} {o : RunOutcome} {fs : List EmittedFrame} (hs : s.runEnded = false)
    (ht : systemStep s = .next t) (h : RunGives fuel t o (fs ++ t.framesOf s.t)) : RunGives (fuel + 1) s o fs := by
  cases h with
  | quiesced h hu =>
    rw [List.append_assoc, ← framesDuring_succ _ ht]
    exact .quiesced (h.succ hs ht) hu fs
  | faulted h hu hstep hf =>
    rw [List.append_assoc, ← framesDuring_succ _ ht]
    exact .faulted (h.succ hs ht) hu hstep hf fs
  | unfinished h hu => exact .unfinished (h.succ hs ht) hu fs

theorem runGives_of_quiesced {fuel : Nat} {fs : List EmittedFrame} {s : State} {o : RunOutcome} (hs : s.anyFault = false)
    (hq : s.runQuiesced = true) (h : runFrom fuel fs s = .next o) : RunGives fuel s o fs := by
  rw [runFrom_quiesced fuel fs s hq] at h
  cases h
  simpa [framesDuring] using RunGives.quiesced (fuel := fuel) (.zero hs) hq fs

/-- By induction on the steps that are left: the run ends where it stands, or goes on from the next state. -/
theorem runGives_of_runFrom (fuel : Nat) (fs : List EmittedFrame) (s : State) (o : RunOutcome) (hs : s.anyFault = false)
    (h : runFrom fuel fs s = .next o) : RunGives fuel s o fs := by
  induction fuel generalizing fs s with
  | zero =>
    cases hq : s.runQuiesced with
    | true => exact runGives_of_quiesced hs hq h
    | false =>
      rw [runFrom, hq] at h
      cases h
      exact .unfinished (.zero hs) hq fs
  | succ fuel ih =>
    cases hq : s.runQuiesced with
    | true => exact runGives_of_quiesced hs hq h
    | false =>
      cases ht : systemStep s with
      | fault | refused => simp [runFrom, hq, ht] at h
      | next t =>
        cases hf : t.anyFault with
        | true =>
          rw [runFrom_faulted fuel fs s t hq ht hf] at h
          cases h
          simpa [framesDuring, ht] using RunGives.faulted (fuel := fuel + 1) (.zero hs) hq ht hf fs
        | false =>
          rw [runFrom_goes_on fuel fs s t hq ht hf] at h
          exact (ih _ t hf h).succ (s.runEnded_eq_false_iff.mpr ⟨hs, hq⟩) ht

/-- A run whose system steps do not stop the model gives an outcome. -/
theorem exists_runFrom (fuel : Nat) (fs : List EmittedFrame) (s u : State) (h : systemSteps fuel s = .next u) :
    ∃ o, runFrom fuel fs s = .next o := by
  induction fuel generalizing fs s with
  | zero => exact ⟨_, rfl⟩
  | succ fuel ih =>
    obtain ⟨t, ht, hu⟩ := systemSteps_succ_next h
    cases hq : s.runQuiesced with
    | true => exact ⟨_, runFrom_quiesced (fuel + 1) fs s hq⟩
    | false =>
      cases hf : t.anyFault with
      | true => exact ⟨_, runFrom_faulted fuel fs s t hq ht hf⟩
      | false => exact runFrom_goes_on fuel fs s t hq ht hf ▸ ih _ t hu

/-- Settles O59: a run gives one of three outcomes, and its frames are those of its system steps. -/
theorem runEndsAtTheFirstFaultOrInQuiescence : Obligations.RunEndsAtTheFirstFaultOrInQuiescence := by
  intro fuel s t hs
  refine ⟨fun report k frames h => ?_, fun frames h => ?_, fun u hu => ?_⟩
  · cases runGives_of_runFrom fuel [] s _ hs h with
    | @faulted m u _ hgo hq ht hf =>
      refine ⟨m, u, hgo.steps, rfl, ht, hf, rfl, errorReport_ne_nil t hf, fun j v hj hv => ?_, fun e => ?_,
        framesDuring_pairwise (m + 1) s⟩
      · exact v.runEnded_eq_false_iff.mp (hgo.upTo hq j v hj hv)
      · simp only [List.nil_append, mem_framesDuring, EmittedAt, Nat.lt_succ_iff, exists_and_left]
  · cases runGives_of_runFrom fuel [] s _ hs h with
    | @quiesced m _ hgo hq =>
      have ⟨hquiescent, hsched⟩ : t.quiescent = true ∧ t.sched = [] := by simpa [State.runQuiesced] using hq
      refine ⟨m, hgo.steps, hquiescent, hsched, fun j v hj hv => ⟨hgo.noFault_upTo hj hv, fun hlt => ?_⟩, fun e => ?_,
        framesDuring_pairwise m s⟩
      · exact (v.runEnded_eq_false_iff.mp (hgo.before j v hlt hv)).2
      · simp only [List.nil_append, mem_framesDuring, EmittedAt, exists_and_left]
  · obtain ⟨o, ho⟩ := exists_runFrom fuel [] s u hu
    refine ⟨o, ho, fun hnone => ?_⟩
    cases runGives_of_runFrom fuel [] s o hs ho with
    | quiesced | faulted => cases hnone
    | unfinished hgo hq => exact ⟨hgo.last_eq hu, hgo.upTo hq⟩

end Sys2Proof.Machine
end

section
/-! A quiet system (60_exceptions R212): every agent's operation is one without effect, and passing the turn on delivers nothing. -/
namespace Sys2Proof.Machine

/-! ## A quiet agent's operation -/

/-- An operation is selected that changes nothing. -/
def State.SelectsNoEffect (s : State) : Prop := ∃ i, selected s = some i ∧ exec i s = .next s

/-- Without a request and with INJ = 0 the injection decision leaves empty working lists empty (R129). -/
theorem Wires.inject_of_quiet {w : Wires} (v : Voltage) (hinj : w.inj = 0) (hreq : w.wReq = []) (hlow : w.lows = w.wLow)
    (hhigh : w.highs = w.wHigh) : w.inject v = w := by
  rw [w.inject_of_none_due v (by simp [hinj, hreq])]
  exact congrArg₂ (fun l h => { w with lows := l, highs := h }) hlow.symm hhigh.symm

/-- A node's three turns with empty ports. -/
theorem selectsNoEffect_of_node {s : State} {nd : Node} (hcall : s.fn.call = none) (hhalt : s.seq.halted = false)
    (hn : s.node? = some nd) (hin : nd.inp = NodeIn.empty) (hst : nd.ctl.state.toNat ≤ 4)
    (hstage : s.seq.stage = .ctl ∨ s.seq.stage = .xw ∨ s.seq.stage = .xr) : s.SelectsNoEffect := by
  rcases hstage with hstage | hstage | hstage
  · have henq : enqFrame s nd = none := by rw [enqFrame, hin]; rfl
    obtain ⟨-, -, -, hnobit⟩ := noBusBitAndSeveralBusBits
    obtain ⟨st, b, c, hsel⟩ := hnobit s nd ⟨hcall, hstage, hhalt, hn, henq⟩ hst (by rw [hin]; rfl)
    exact ⟨_, hsel, rfl⟩
  · refine ⟨.xcvWrnone false, ?_, rfl⟩
    rw [selected_of_writeTurn ⟨hcall, hstage, hn⟩, xwSelector, hin]
    rfl
  · refine ⟨.xcvRdnone 0b00#2, ?_, rfl⟩
    rw [selected_of_readTurn ⟨hcall, hstage, hn⟩, xrSelector, hin]
    exact decode_encode (.xcvRdnone 0b00#2) rfl

theorem State.quiet.selectsNoEffect {s : State} (hq : s.quiet) (hst : ∀ nd ∈ s.nodes, nd.ctl.state.toNat ≤ 4)
    (hlt : s.seq.stage = .ctl ∨ s.seq.stage = .xw ∨ s.seq.stage = .xr → s.seq.node < s.nodes.length) : s.SelectsNoEffect := by
  obtain ⟨hnodes, hinj, -, hwLow, hwHigh, hwReq, hlows, hhighs, -, -, hactive, hreports, hbusLow, hbusHigh, -, -, hcall, -,
    hhalt⟩ := hq
  have hnode (hstage : s.seq.stage = .ctl ∨ s.seq.stage = .xw ∨ s.seq.stage = .xr) : s.SelectsNoEffect := by
    obtain ⟨nd, hn⟩ : ∃ nd, s.node? = some nd := ⟨_, List.getElem?_eq_getElem (hlt hstage)⟩
    have hmem : nd ∈ s.nodes := List.mem_of_getElem? hn
    exact selectsNoEffect_of_node hcall hhalt hn (hnodes nd hmem).1 (hst nd hmem) hstage
  cases hstage : s.seq.stage with
  | ctl => exact hnode (.inl hstage)
  | xw => exact hnode (.inr (.inl hstage))
  | xr => exact hnode (.inr (.inr hstage))
  | wi =>
    refine ⟨.wiresNoinj, ?_, ?_⟩
    · rw [selected_of_injection hcall hstage, if_neg (by simp [hinj, hwReq])]
    · rw [exec, execWiresNoinj, Wires.inject_of_quiet s.cfg.vRec hinj hwReq (hlows.trans hwLow.symm) (hhighs.trans hwHigh.symm)]
  | wr =>
    have hsel := selected_of_resolution hcall hstage
    rw [hlows, hhighs] at hsel
    exact ⟨_, hsel, rfl⟩
  | wd =>
    have hsel := selected_of_watchdog hcall hstage
    rw [wdAwake_of_silent s.wd hactive hreports hbusLow hbusHigh] at hsel
    exact ⟨_, hsel, rfl⟩

/-! ## Passing the turn on -/

theorem State.quiet.noCall_and_goesOn {s : State} (hq : s.quiet) :
    s.fn.call = none ∧ s.seq.ended = false ∧ s.seq.halted = false := by
  obtain ⟨-, -, -, -, -, -, -, -, -, -, -, -, -, -, -, -, hcall, hended, hhalt⟩ := hq
  exact ⟨hcall, hended, hhalt⟩

theorem State.quiet.anyFault {s : State} (hq : s.quiet) : s.anyFault = false := by
  obtain ⟨hnodes, -, hwires, -⟩ := hq
  refine Bool.or_eq_false_iff.mpr ⟨hwires, List.any_eq_false.mpr fun nd hnd => ?_⟩
  obtain ⟨-, -, hctl, hxcv⟩ := hnodes nd hnd
  simp [hctl, hxcv]

/-- Quietness is not a matter of whose turn it is. -/
theorem State.quiet.setSeq {s : State} (hq : s.quiet) (q : Sequencer) (hended : q.ended = false) (hhalt : q.halted = false) :
    State.quiet { s with seq := q } := by
  obtain ⟨hnodes, hinj, hfault, hwLow, hwHigh, hwReq, hlows, hhighs, hlow, hhigh, hactive, hreports, hbusLow, hbusHigh, hreq, hsched,
    hcall, -, -⟩ := hq
  exact ⟨hnodes, hinj, hfault, hwLow, hwHigh, hwReq, hlows, hhighs, hlow, hhigh, hactive, hreports, hbusLow, hbusHigh, hreq, hsched,
    hcall, hended, hhalt⟩

/-- Nothing is emitted, so nothing is delivered. -/
theorem Node.deliver_of_silent {nd : Node} (hout : nd.out = NodeOut.empty) :
    nd.deliver [] [] [] = { nd with inp := NodeIn.empty, out := NodeOut.empty } := by
  rw [Node.deliver, hout]
  rfl

theorem State.quiet.commit {s : State} (hq : s.quiet) : s.commit.quiet := by
  have hfault := hq.anyFault
  obtain ⟨hnodes, hinj, hwires, -, -, -, -, -, hlow, hhigh, hactive, -, -, -, hreq, hsched, hcall, -, -⟩ := hq
  have hnone {α : Type} (g : NodeOut → List α) (hg : g NodeOut.empty = []) (code : List Nat) :
      arrange (s.nodes.flatMap fun nd => g nd.out) code = [] := by
    rw [List.flatMap_eq_nil_iff.mpr fun nd hnd => by rw [(hnodes nd hnd).2.1, hg]]
    rfl
  refine ⟨fun nd hnd => ?_, hinj, hwires, hnone NodeOut.canLow rfl _, hnone NodeOut.canHigh rfl _, hreq, rfl, rfl, rfl, rfl, hactive,
    hnone NodeOut.report rfl _, hlow, hhigh, rfl, by rw [State.commit_sched, hsched]; rfl, hcall, rfl, hfault⟩
  obtain ⟨m, hm⟩ := List.mem_iff_getElem?.mp hnd
  rw [State.commit_nodes, getElem?_deliverNodes, hsched, hlow, hhigh] at hm
  obtain ⟨nd₀, hnd₀, rfl⟩ := Option.map_eq_some_iff.mp hm
  obtain ⟨-, hout, hctl, hxcv⟩ := hnodes nd₀ (List.mem_of_getElem? hnd₀)
  exact ⟨congrArg Node.inp (Node.deliver_of_silent hout), rfl, hctl, hxcv⟩

theorem State.quiet.nextAgent {s : State} (hq : s.quiet) : s.nextAgent.quiet := by
  obtain ⟨-, -, hhalt⟩ := hq.noCall_and_goesOn
  rcases s.nextAgent_turn_or_commit with ⟨g, n, hn⟩ | hn
  · exact hn ▸ hq.setSeq _ rfl hhalt
  · exact hn ▸ hq.commit

/-- Without an input there is no report (R141). -/
theorem State.quiet.reportState {s : State} (hq : s.quiet) : Sys2Proof.Machine.reportState s = s := by
  obtain ⟨hnodes, -⟩ := hq
  cases hn : s.node? with
  | none => simp [Sys2Proof.Machine.reportState, hn]
  | some nd =>
    have hin : nd.inp = NodeIn.empty := (hnodes nd (List.mem_of_getElem? hn)).1
    exact reportState_of_silent hn (.inr (.inr ⟨by rw [hin]; rfl, by rw [hin]; rfl⟩))

theorem State.quiet.advance {s : State} (hq : s.quiet) (f : Format) : (s.advance f).quiet := by
  obtain ⟨hcall, hended, hhalt⟩ := hq.noCall_and_goesOn
  cases f with
  | host =>
    rw [State.advance, afterEnq_of_not_ended hended]
    exact hq.setSeq _ hended hhalt
  | ctl =>
    rw [State.advance, hq.reportState]
    exact hq.nextAgent
  | xw =>
    rw [State.advance, if_neg (by simp [hended])]
    exact hq.setSeq _ hended hhalt
  | xr | wr | wd => exact hq.nextAgent
  | wi => exact hq.setSeq _ hended hhalt
  | fn =>
    rw [State.advance, ← hcall]
    exact hq

/-- Settles O60: the selected operation has no effect, and passing the turn on writes no register and leaves the system quiet. -/
theorem quietSystemStaysQuiet : Obligations.QuietSystemStaysQuiet := by
  intro s hq hst hlt
  obtain ⟨i, hsel, hexec⟩ := hq.selectsNoEffect hst hlt
  exact ⟨_, step_of_selected hsel hexec, hq.advance _, advance_sameRegisters s _⟩

end Sys2Proof.Machine
end
